-- ==== Sys2Proof/Word.lean ====
section
/-! DEFINITION. The words and the named value types of the block: the `U` word (30_encoding.md R48), buttons (R51),
channels (R52), stimulus (R53), direction (R56) and the sequencer's position (10_state.md R28). -/

namespace Sys2Proof

/-- An 8-bit `U` word, or an 8-bit register (30_encoding.md R48, 20_memory.md R38). -/
abbrev Byte := BitVec 8

/-- The three raw button levels of one pass; bit b is the level of button b, 1 = released (30_encoding.md R53). -/
abbrev Stimulus := BitVec 3

/-- A channel index, the 1-bit field `c` (30_encoding.md R52). Whether the channel exists is `channelExists`. -/
abbrev Chan := Fin 2

/-- The three buttons in the order of the index b (30_encoding.md R51). -/
inductive Button where
  | speedUp
  | speedDown
  | dirToggle
  deriving DecidableEq, Repr, Inhabited

/-- The two values of `direction` (10_state.md R19). -/
inductive Direction where
  | cw
  | ccw
  deriving DecidableEq, Repr, Inhabited

/-- The sequencer's position inside a step (10_state.md R28). -/
inductive Phase where
  | idle
  | poll (b : Button)
  | duty (b : Button)
  | commitPwm (c : Chan)
  | commitDir (c : Chan)
  | commitRender
  | init
  deriving DecidableEq, Repr, Inhabited

/-- Who presents a word to the block (00_scope.md R7): the environment, or the sequencer itself for a micro-operation
that a unit claim runs on its own (log 3). -/
inductive Issuer where
  | environment
  | sequencer
  deriving DecidableEq, Repr, Inhabited

end Sys2Proof
end

