-- ==== Sys2Proof/Config.lean ====
section
/-! DEFINITION. The implementation parameters (00_scope.md R5), the names of the configuration checks
(60_exceptions.md R101) and the free values: opaque constants for what the spec leaves unspecified. -/

namespace Sys2Proof

/-- The parameters of 00_scope.md R5 (`N_BTN` is the constant 3: the constructors of `Button`). They are natural numbers,
legal or not, because `CFG_CHECK` judges them. No step writes them (10_state.md R29; log 1). -/
structure Config where
  /-- `N_CH`, legal 1 or 2. -/
  nCh : Nat
  /-- `RES`, legal 8 or 10. -/
  res : Nat
  /-- `PERIOD`, the shared timer's period register value. -/
  period : Nat
  /-- `MODE_SHIFT`, legal 0 to 6. -/
  modeShift : Nat
  /-- `MODE_INIT[0]`, legal 0 to 255. -/
  modeInit0 : Nat
  /-- `MODE_INIT[1]`, legal 0 to 255; a block of one channel has none and nothing reads it there. -/
  modeInit1 : Nat
  /-- `SETTLE_DELAY`, a duration in milliseconds; no rule depends on it (70_reset_and_hazards.md R126; log 16). -/
  settleDelay : Nat
  deriving DecidableEq, Repr, Inhabited

/-- The names of the checks of `CFG_CHECK`, in the order they are made (60_exceptions.md R101). -/
inductive CfgError where
  | nChRange
  | resRange
  | periodOverflow
  | modeShiftRange
  | modeInitRange
  deriving DecidableEq, Repr, Inhabited

/-- The configuration of the example of 70_reset_and_hazards.md R113, which `State.reset` takes.
DESIGN CHOICE (log 1): the spec fixes no configuration. -/
def Config.example124 : Config :=
  { nCh := 2, res := 10, period := 124, modeShift := 4, modeInit0 := 0x0C, modeInit1 := 0x0C, settleDelay := 50 }

/-! Free values. The argument is the count of draws held in State (`draws`). Registers are unspecified before the first
`RESET` (10_state.md R32) and in the configuration-fault state (60_exceptions.md R102; log 7). -/

/-- `SR` where the spec gives it no value. -/
opaque Config.freeSr : Nat → BitVec 3
/-- `DUTY` where the spec gives it no value. -/
opaque Config.freeDuty : Nat → BitVec 7
/-- `DIR` where the spec gives it no value. -/
opaque Config.freeDir : Nat → Direction
/-- `CMP[c]` where the spec gives it no value (also log 10). -/
opaque Config.freeCmp : Nat → Chan → Byte
/-- `MODE[c]` where the spec gives it no value (also log 10). -/
opaque Config.freeMode : Nat → Chan → Byte
/-- `PINS[c]` where the spec gives it no value. -/
opaque Config.freePins : Nat → Chan → BitVec 2
/-- `TMR_EN` where the spec gives it no value. -/
opaque Config.freeTmrEn : Nat → Bool
/-- `FAULT` before the first `RESET`. -/
opaque Config.freeFault : Nat → BitVec 2
/-- The info of a fault before the first `RESET`, where `FAULT` itself has no value (log 18). -/
opaque Config.freeFaultInfo : Nat → Option CfgError
/-- `EV` where the spec gives it no value. -/
opaque Config.freeEv : Nat → BitVec 3
/-- `CHG` where the spec gives it no value. -/
opaque Config.freeChg : Nat → Bool
/-- `PHASE` where the spec gives it no value (log 8). -/
opaque Config.freePhase : Nat → Phase

end Sys2Proof
end

