-- ==== Sys2Proof/Syntax.lean ====
section
/-! DEFINITION. The operations of the block, one constructor per row of the opcode map (30_encoding.md R50), the reasons
a word is refused as an encoding (60_exceptions.md R103) and the output events (30_encoding.md R60). -/

namespace Sys2Proof

/-- The twelve operations (30_encoding.md R50). -/
inductive Instr where
  /-- `RESET` (70_reset_and_hazards.md R113). -/
  | reset
  /-- `DEB_POLL b, l`; `l` is the raw level, `true` = 1 = released (40_debounce.md R64). -/
  | debPoll (b : Button) (l : Bool)
  /-- `DUTY_INC` (41_duty_controller.md R68). -/
  | dutyInc
  /-- `DUTY_DEC` (R69). -/
  | dutyDec
  /-- `DIR_TOGGLE` (R70). -/
  | dirToggle
  /-- `PWM_INIT c` (42_pwm_translator.md R76). -/
  | pwmInit (c : Chan)
  /-- `PWM_APPLY c` (R75). -/
  | pwmApply (c : Chan)
  /-- `DIR_APPLY c` (43_direction_driver.md R83). -/
  | dirApply (c : Chan)
  /-- `TMR_START` (R77). -/
  | tmrStart
  /-- `RENDER_REQ` (44_control_pass.md R93). -/
  | renderReq
  /-- `PASS s` (44_control_pass.md R89). -/
  | pass (st : Stimulus)
  /-- `CFG_CHECK` (60_exceptions.md R101). -/
  | cfgCheck
  deriving DecidableEq, Repr, Inhabited

/-- Why a word is no step of the block: the cases of `REFUSED_ENCODING` (60_exceptions.md R103; log 13). -/
inductive EncodingError where
  /-- A bit outside the fields differs from every pattern (30_encoding.md R55). -/
  | reservedWord
  /-- `DEB_POLL` with bb = 11 (R55). -/
  | reservedButton
  /-- The word names a channel c ≥ `N_CH` (R52, R55). -/
  | absentChannel
  /-- A micro-operation presented by the environment (R63). -/
  | environmentMicroOp
  /-- `RESET` or `PASS` presented as the sequencer's own, which the sequencer never issues (R50; log 13). -/
  | sequencerStep
  deriving DecidableEq, Repr, Inhabited

/-- The output events a step emits (30_encoding.md R60). -/
inductive Event where
  /-- Button b's settle delay runs here. -/
  | settle (b : Button)
  /-- Channel c's register pair is committed with these two values. -/
  | pwmw (c : Chan) (cmp mode : Byte)
  /-- The shared timer is enabled. -/
  | tmrw
  /-- Channel c's direction lines are set. -/
  | dirw (c : Chan) (pins : BitVec 2)
  /-- The display is asked to render. -/
  | render (duty : BitVec 7) (dir : Direction)
  /-- The fault code is recorded. -/
  | faultw (code : BitVec 2)
  deriving DecidableEq, Repr, Inhabited

end Sys2Proof
end

