-- ==== Sys2Proof/WellFormed.lean ====
section
/-! DEFINITION. Which operations a block of a given configuration has: a channel field must name a channel
(30_encoding.md R52, R55). Every other field is legal by its type (bb = 11 is no `Button`). -/

namespace Sys2Proof

/-- Channel c exists when c < `N_CH` (30_encoding.md R52). -/
def channelExists (cfg : Config) (c : Chan) : Bool :=
  decide (c.val < cfg.nCh)

/-- An operation is well-formed under a configuration when it names only channels the block has (30_encoding.md R55). -/
def Instr.wellFormed (cfg : Config) : Instr → Bool
  | .reset => true
  | .debPoll _ _ => true
  | .dutyInc => true
  | .dutyDec => true
  | .dirToggle => true
  | .pwmInit c => channelExists cfg c
  | .pwmApply c => channelExists cfg c
  | .dirApply c => channelExists cfg c
  | .tmrStart => true
  | .renderReq => true
  | .pass _ => true
  | .cfgCheck => true

end Sys2Proof
end

