-- ==== Sys2Proof/Decode.lean ====
section
/-! DEFINITION. The decoder of a `U` word, total, rejecting by name (30_encoding.md R49, R50, R55, R59), the encoder
written from the same map, who may issue an operation (R50, R63), and `decodeTableWord`. -/

namespace Sys2Proof

/-- Field `b` as a button; bb = 11 names none (30_encoding.md R51). -/
def decodeButton (bb : BitVec 2) : Option Button :=
  match bb.toNat with
  | 0 => some .speedUp
  | 1 => some .speedDown
  | 2 => some .dirToggle
  | _ => none

/-- Field `c` as a channel index (30_encoding.md R52). -/
def decodeChan (c : Bool) : Chan :=
  if c then 1 else 0

/-- A group whose argument nibble is fixed (30_encoding.md R50). -/
def decodeFixed (arg want : BitVec 4) (i : Instr) : Except EncodingError Instr :=
  if arg = want then .ok i else .error .reservedWord

/-- A group `000c` of the argument nibble (30_encoding.md R50). -/
def decodeChanOp (arg : BitVec 4) (f : Chan → Instr) : Except EncodingError Instr :=
  if arg.extractLsb' 1 3 = 0 then .ok (f (decodeChan (arg.getLsbD 0))) else .error .reservedWord

/-- The group `0010`: `DUTY_INC`, `DUTY_DEC`, `DIR_TOGGLE` (30_encoding.md R50). -/
def decodeDuty (arg : BitVec 4) : Except EncodingError Instr :=
  match arg.toNat with
  | 0 => .ok .dutyInc
  | 1 => .ok .dutyDec
  | 2 => .ok .dirToggle
  | _ => .error .reservedWord

/-- The group `0001 0lbb`: `DEB_POLL` (30_encoding.md R50, R51, R54). -/
def decodePoll (arg : BitVec 4) : Except EncodingError Instr :=
  if arg.getLsbD 3 then .error .reservedWord
  else match decodeButton (arg.extractLsb' 0 2) with
    | some b => .ok (.debPoll b (arg.getLsbD 2))
    | none => .error .reservedButton

/-- The group `1000 0sss`: `PASS` (30_encoding.md R50, R53). -/
def decodePass (arg : BitVec 4) : Except EncodingError Instr :=
  if arg.getLsbD 3 then .error .reservedWord else .ok (.pass (arg.extractLsb' 0 3))

/-- Decodes a `U` word: `op = w[7:4]`, `arg = w[3:0]` (30_encoding.md R49, R59). -/
def decode (w : Byte) : Except EncodingError Instr :=
  let arg := w.extractLsb' 0 4
  match (w.extractLsb' 4 4).toNat with
  | 0 => decodeFixed arg 0 .reset
  | 1 => decodePoll arg
  | 2 => decodeDuty arg
  | 3 => decodeChanOp arg .pwmInit
  | 4 => decodeChanOp arg .pwmApply
  | 5 => decodeChanOp arg .dirApply
  | 6 => decodeFixed arg 0 .tmrStart
  | 7 => decodeFixed arg 0 .renderReq
  | 8 => decodePass arg
  | 9 => decodeFixed arg 0 .cfgCheck
  | _ => .error .reservedWord

/-- The 2-bit field `b` of a button (30_encoding.md R51). -/
def encodeButton : Button → BitVec 2
  | .speedUp => 0
  | .speedDown => 1
  | .dirToggle => 2

/-- The word of an operation (30_encoding.md R50). -/
def encode : Instr → Byte
  | .reset => 0b00000000#8
  | .debPoll b l => 0b00010#5 ++ BitVec.ofBool l ++ encodeButton b
  | .dutyInc => 0b00100000#8
  | .dutyDec => 0b00100001#8
  | .dirToggle => 0b00100010#8
  | .pwmInit c => 0b0011000#7 ++ BitVec.ofNat 1 c.val
  | .pwmApply c => 0b0100000#7 ++ BitVec.ofNat 1 c.val
  | .dirApply c => 0b0101000#7 ++ BitVec.ofNat 1 c.val
  | .tmrStart => 0b01100000#8
  | .renderReq => 0b01110000#8
  | .pass st => 0b10000#5 ++ st
  | .cfgCheck => 0b10010000#8

/-- The two steps the environment can cause, `RESET` and `PASS` (00_scope.md R7, 30_encoding.md R50). -/
def Instr.isStep : Instr → Bool
  | .reset => true
  | .debPoll _ _ => false
  | .dutyInc => false
  | .dutyDec => false
  | .dirToggle => false
  | .pwmInit _ => false
  | .pwmApply _ => false
  | .dirApply _ => false
  | .tmrStart => false
  | .renderReq => false
  | .pass _ => true
  | .cfgCheck => false

/-- Why an issuer may not present an operation, if so (30_encoding.md R50, R63). -/
def issueError (who : Issuer) (i : Instr) : Option EncodingError :=
  match who with
  | .environment => if i.isStep then none else some .environmentMicroOp
  | .sequencer => if i.isStep then some .sequencerStep else none

/-- The instruction read from a row's word as spec/opcode_table.json numbers its bits: every word is one byte, so the
bits above bit 7 belong to no instruction (30_encoding.md R63). -/
def decodeTableWord (_nbits w : Nat) : Option Instr :=
  (decode (BitVec.ofNat 8 w)).toOption

end Sys2Proof
end

