-- ==== Sys2Proof/Machine/State.lean ====
section
/-! DEFINITION. The state of the block (10_state.md R15 to R29), the ways a step can stop (60_exceptions.md R102, R103)
and the state right after `RESET` (70_reset_and_hazards.md R114). -/

namespace Sys2Proof.Machine

/-- The output registers of one channel. -/
structure Channel where
  /-- `CMP[c]`, the compare register (10_state.md R20). -/
  cmp : Byte
  /-- `MODE[c]`, the mode-control register (10_state.md R21). -/
  mode : Byte
  /-- `PINS[c] = {pin_a, pin_b}` (10_state.md R22). -/
  pins : BitVec 2
  deriving DecidableEq, Repr, Inhabited

/-- A word presented to the block, and who presents it (00_scope.md R7; log 2, log 3). -/
structure Request where
  issuer : Issuer
  word : Byte
  deriving DecidableEq, Repr, Inhabited

/-- The state: the configuration, the registers of 10_state.md R15 (`sr` to `phase`, with the info of the fault), and
what the observation and the environment need (`trace` to `draws`). -/
structure State where
  /-- The configuration, a parameter no step writes (10_state.md R29; log 1). -/
  cfg : Config
  /-- `SR[2:0]`: bit b is `SR[b]`, 1 = armed (R17). -/
  sr : BitVec 3
  /-- `DUTY` (R18). -/
  duty : BitVec 7
  /-- `DIR` (R19). -/
  dir : Direction
  /-- The registers of channel 0. -/
  ch0 : Channel
  /-- The registers of channel 1; a block with `N_CH = 1` has none and nothing reads or writes them there (log 14). -/
  ch1 : Channel
  /-- `TMR_EN` (R23). -/
  tmrEn : Bool
  /-- `FAULT` (R27). -/
  fault : BitVec 2
  /-- The name of the failed check recorded with `FAULT` (60_exceptions.md R100; log 9). -/
  faultInfo : Option CfgError
  /-- `EV[2:0]` (R25). -/
  ev : BitVec 3
  /-- `CHG` (R24). -/
  chg : Bool
  /-- `PHASE` (R28). -/
  phase : Phase
  /-- The output events of the step that ended last, in order (00_scope.md R8, 30_encoding.md R60; log 5). -/
  trace : List Event
  /-- The words presented and not yet taken, oldest first (log 2). -/
  inbox : List Request
  /-- Whether a `RESET` has happened (10_state.md R32; log 18). -/
  resetSeen : Bool
  /-- How many times free values were drawn: the argument of the opaque constants of Config (log 7). -/
  draws : Nat
  deriving DecidableEq, Repr, Inhabited

/-- The ways the block itself is stuck. -/
inductive Fault where
  /-- Raised by `PASS` when `FAULT` is not `NONE`: the block is stuck and only `RESET` is accepted
  (60_exceptions.md R102, 93_implementation_defined.md I3). Safe: the spec gives the pass no step. -/
  | passInConfigFault
  deriving DecidableEq, Repr

/-- The model declining a step the hardware never takes (60_exceptions.md R103). -/
inductive Refusal where
  /-- An instruction without a meaning in this model; raised by no arm of `exec`. Safe. -/
  | notModelled (mnemonic : String)
  /-- `REFUSED_ENCODING`, raised by the fetch of a reserved or wrongly issued word and by an operation on an absent
  channel (R103). Safe: the hardware has no such word. -/
  | refusedEncoding (why : EncodingError)
  /-- `REFUSED_NO_RESET`, raised by a `PASS` before the first `RESET` (R103, 10_state.md R32). Safe. -/
  | refusedNoReset
  deriving DecidableEq, Repr

/-- `FAULT = NONE` (10_state.md R27). -/
abbrev faultNone : BitVec 2 := 0
/-- `FAULT = CONFIG` (10_state.md R27). -/
abbrev faultConfig : BitVec 2 := 1

/-- The machine right after a `RESET` with the configuration of the example of 70_reset_and_hazards.md R113: the values of
R114 and that example's trace. `ev` and `chg` have no value in the spec: DESIGN CHOICE 0 (log 6); nothing is presented
yet (log 2). -/
def State.reset : State where
  cfg := Config.example124
  sr := 0b111
  duty := 0
  dir := .cw
  ch0 := { cmp := 0, mode := 0x0C, pins := 0b10 }
  ch1 := { cmp := 0, mode := 0x0C, pins := 0b10 }
  tmrEn := true
  fault := faultNone
  faultInfo := none
  ev := 0
  chg := false
  phase := .idle
  trace := [.pwmw 0 0 0x0C, .pwmw 1 0 0x0C, .tmrw, .dirw 0 0b10, .dirw 1 0b10, .render 0 .cw]
  inbox := []
  resetSeen := true
  draws := 0

end Sys2Proof.Machine
end

