-- ==== Sys2Proof/Machine/Operands.lean ====
section
/-! DEFINITION. The operand forms: button and stimulus bits (30_encoding.md R51, R53), the channels of the configuration
(R52), channel registers by index, the value encodings of `DIR` and `PINS` (R56, R57), the duty sub-field (10_state.md
R21, 20_memory.md R35, R42) and the PWM value function (42_pwm_translator.md R74). -/

namespace Sys2Proof.Machine

/-- The buttons in ascending b (44_control_pass.md R90, R91). -/
def buttons : List Button :=
  [.speedUp, .speedDown, .dirToggle]

/-- The index b of a button (30_encoding.md R51). -/
def buttonIndex : Button → Nat
  | .speedUp => 0
  | .speedDown => 1
  | .dirToggle => 2

/-- The element of a 3-bit per-button register (10_state.md R17, R25; the stimulus, 30_encoding.md R53). -/
def buttonBit (v : BitVec 3) (b : Button) : Bool :=
  v.getLsbD (buttonIndex b)

/-- A 3-bit per-button register with one element written. -/
def setButtonBit (v : BitVec 3) (b : Button) (x : Bool) : BitVec 3 :=
  if x then v ||| (1#3 <<< buttonIndex b) else v &&& ~~~(1#3 <<< buttonIndex b)

/-- The raw level `s[b]` of a stimulus; `true` = 1 = released (30_encoding.md R53). -/
def level (st : Stimulus) (b : Button) : Bool :=
  buttonBit st b

/-- `SR[b]` (10_state.md R17). -/
def State.srBit (s : State) (b : Button) : Bool :=
  buttonBit s.sr b

/-- `EV[b]` (10_state.md R25). -/
def State.evBit (s : State) (b : Button) : Bool :=
  buttonBit s.ev b

/-- The channels `0..N_CH-1` in ascending order (00_scope.md R12), of the two this model holds (log 14, log 19). -/
def channels (cfg : Config) : List Chan :=
  [(0 : Chan), 1].filter (channelExists cfg)

/-- `MODE_INIT[c]` (00_scope.md R5). -/
def modeInit (cfg : Config) (c : Chan) : Nat :=
  match c with
  | 0 => cfg.modeInit0
  | 1 => cfg.modeInit1

/-- The registers of channel c. -/
def State.chan (s : State) (c : Chan) : Channel :=
  match c with
  | 0 => s.ch0
  | 1 => s.ch1

/-- `1 - DIR` (41_duty_controller.md R70). -/
def Direction.flip : Direction → Direction
  | .cw => .ccw
  | .ccw => .cw

/-- The bit that encodes a direction: 0 is CW, 1 is CCW (30_encoding.md R56). -/
def Direction.bit : Direction → BitVec 1
  | .cw => 0
  | .ccw => 1

/-- `{1 - DIR, DIR}`, the pin pattern of a direction (30_encoding.md R57, 43_direction_driver.md R83). -/
def dirPins (d : Direction) : BitVec 2 :=
  (1#1 - Direction.bit d) ++ Direction.bit d

/-- `0b11 << MODE_SHIFT` within the 8-bit mode register (20_memory.md R42). -/
def dsubMask (cfg : Config) : Byte :=
  3#8 <<< cfg.modeShift

/-- `DSUB` of a mode register: `MODE[MODE_SHIFT+1:MODE_SHIFT]` (10_state.md R21). -/
def dsub (cfg : Config) (mode : Byte) : BitVec 2 :=
  mode.extractLsb' cfg.modeShift 2

/-- A mode register with its duty sub-field cleared (10_state.md R21, 42_pwm_translator.md R76). -/
def clearDsub (cfg : Config) (mode : Byte) : Byte :=
  mode &&& ~~~(dsubMask cfg)

/-- The 10-bit number `{CMP[c], DSUB}` an external reader combines (20_memory.md R35, R36). -/
def pairValue (cfg : Config) (ch : Channel) : BitVec 10 :=
  ch.cmp ++ dsub cfg ch.mode

/-- The PWM value of a duty percentage; exact naturals, multiply first, floor division (42_pwm_translator.md R74). The rule
gives no value for another resolution than 8 or 10. -/
def pwmValue (cfg : Config) (d : Nat) : Option Nat :=
  if cfg.res = 10 then some (d * 4 * (cfg.period + 1) / 100)
  else if cfg.res = 8 then some (d * cfg.period / 100)
  else none

/-- A natural number as an 8-bit register value, when it fits (00_scope.md R11: no stored value wraps). -/
def byteOfFit (n : Nat) : Option Byte :=
  if n < 256 then some (BitVec.ofNat 8 n) else none

/-- The value `PWM_APPLY` gives `CMP[c]`: `pwm[9:2]` for 10 bits, the whole value for 8 (42_pwm_translator.md R75); none
where the spec states none (log 10). -/
def newCmp (cfg : Config) (d : Nat) : Option Byte :=
  match pwmValue cfg d with
  | some p => byteOfFit (if cfg.res = 10 then p >>> 2 else p)
  | none => none

/-- The value `PWM_APPLY` gives `MODE[c]`: for 10 bits `pwm[1:0]` into the duty sub-field, the other bits kept; for 8 bits
the register as it is (42_pwm_translator.md R75, 20_memory.md R42); none where the sub-field does not fit the register
(log 10). -/
def newMode (cfg : Config) (d : Nat) (mode : Byte) : Option Byte :=
  if cfg.res = 10 then
    match pwmValue cfg d with
    | some p => (byteOfFit ((p &&& 3) <<< cfg.modeShift)).map (fun ins => clearDsub cfg mode ||| ins)
    | none => none
  else some mode

/-- The first check of `CFG_CHECK` that fails, if one does (60_exceptions.md R101). -/
def cfgError (cfg : Config) : Option CfgError :=
  if ¬(cfg.nCh = 1 ∨ cfg.nCh = 2) then some .nChRange
  else if ¬(cfg.res = 8 ∨ cfg.res = 10) then some .resRange
  else if cfg.res = 10 ∧ 4 * (cfg.period + 1) > 1023 then some .periodOverflow
  else if cfg.res = 8 ∧ cfg.period > 255 then some .periodOverflow
  else if cfg.modeShift > 6 then some .modeShiftRange
  else if (channels cfg).any (fun c => decide (modeInit cfg c > 255)) then some .modeInitRange
  else none

end Sys2Proof.Machine
end

