-- ==== Sys2Proof/Machine/Flags.lean ====
section
/-! DEFINITION. The transient flags of a pass: the event vector `EV` (10_state.md R25) and the change flag `CHG` (R24).
These are all the flags of the block (00_scope.md R13). -/

namespace Sys2Proof.Machine

/-- The start of a pass clears `EV` and `CHG` (44_control_pass.md R89). -/
def State.clearFlags (s : State) : State :=
  { s with ev := 0, chg := false }

/-- `EV[b] <- 1`: button b's debouncer fired (40_debounce.md R64). -/
def State.setEv (s : State) (b : Button) : State :=
  { s with ev := setButtonBit s.ev b true }

/-- A Duty Controller operation reports a change by an OR into `CHG` (41_duty_controller.md R72). -/
def State.reportChange (s : State) : State :=
  { s with chg := true }

end Sys2Proof.Machine
end

