-- ==== Sys2Proof/Machine/Ops.lean ====
section
/-! DEFINITION. The named operations over the state: register writes, `Emit` (00_scope.md R12), one operation per
micro-operation's pseudocode, and taking the configuration fault (60_exceptions.md R102). There is no return from the
fault but `RESET` (R108). -/

namespace Sys2Proof.Machine

/-! Register writes. -/

/-- `Emit(e)`: append an event to the step's trace (00_scope.md R12). -/
def State.emit (s : State) (e : Event) : State :=
  { s with trace := s.trace ++ [e] }

/-- `PHASE <- p` (10_state.md R28). -/
def State.setPhase (s : State) (p : Phase) : State :=
  { s with phase := p }

/-- `SR[b] <- x` (10_state.md R17). -/
def State.setSr (s : State) (b : Button) (x : Bool) : State :=
  { s with sr := setButtonBit s.sr b x }

/-- `DUTY <- n`; every rule that stores it keeps n below 128 (41_duty_controller.md R68, R69). -/
def State.setDuty (s : State) (n : Nat) : State :=
  { s with duty := BitVec.ofNat 7 n }

/-- `DIR <- d` (10_state.md R19). -/
def State.setDir (s : State) (d : Direction) : State :=
  { s with dir := d }

/-- One indivisible write of channel c's registers (20_memory.md R39, R40). -/
def State.setChan (s : State) (c : Chan) (ch : Channel) : State :=
  match c with
  | 0 => { s with ch0 := ch }
  | 1 => { s with ch1 := ch }

/-- `TMR_EN <- x` (10_state.md R23). -/
def State.setTmrEn (s : State) (x : Bool) : State :=
  { s with tmrEn := x }

/-- `FAULT <- code` with its info (10_state.md R27, 60_exceptions.md R100). -/
def State.setFault (s : State) (code : BitVec 2) (info : Option CfgError) : State :=
  { s with fault := code, faultInfo := info }

/-- A `RESET` has been taken (10_state.md R32; log 18). -/
def State.markReset (s : State) : State :=
  { s with resetSeen := true }

/-- Count one draw of free values (log 7). -/
def State.countDraw (s : State) : State :=
  { s with draws := s.draws + 1 }

/-! The configuration fault. -/

/-- The free registers of channel c at draw k (log 7). -/
def freeChannel (k : Nat) (c : Chan) : Channel :=
  { cmp := Config.freeCmp k c, mode := Config.freeMode k c, pins := Config.freePins k c }

/-- A channel's registers made unspecified, when the block has the channel (60_exceptions.md R102). -/
def State.forgetChan (s : State) (c : Chan) : State :=
  if channelExists s.cfg c then s.setChan c (freeChannel s.draws c) else s

/-- The output registers `CMP`, `MODE`, `PINS` and `TMR_EN` made unspecified: free values, one draw. In the
configuration-fault state these four have no value (60_exceptions.md R102, 92_eei_decisions.md D12,
93_implementation_defined.md I2; log 7). -/
def State.forgetOutputs (s : State) : State :=
  ({ s with tmrEn := Config.freeTmrEn s.draws } |>.forgetChan 0 |>.forgetChan 1).countDraw

/-- The registers that are no outputs, but for `FAULT`, made unspecified: free values, one draw. After a `RESET` that
stopped they have no value either (70_reset_and_hazards.md R114; log 7, log 8). -/
def State.forgetInternals (s : State) : State :=
  let k := s.draws
  { s with
    sr := Config.freeSr k, duty := Config.freeDuty k, dir := Config.freeDir k, ev := Config.freeEv k,
    chg := Config.freeChg k, phase := Config.freePhase k }.countDraw

/-- `raise ConfigFault(info)`: enter the configuration-fault state (60_exceptions.md R100, R102, R107): `FAULT <- CONFIG`
with the failed check, the event `FAULTW(1)`, and no output register has a value. No other register changes (10_state.md
R30, the row of `CFG_CHECK`). -/
def takeConfigFault (info : CfgError) (s : State) : State :=
  ((s.forgetOutputs).setFault faultConfig (some info)).emit (.faultw faultConfig)

/-- `CFG_CHECK` (60_exceptions.md R101). -/
def checkConfig (s : State) : State :=
  match cfgError s.cfg with
  | some e => takeConfigFault e s
  | none => s.setFault faultNone none

/-! The micro-operations. -/

/-- `DEB_POLL b, l` (40_debounce.md R64). -/
def pollButton (b : Button) (l : Bool) (s : State) : State :=
  if !l && s.srBit b then ((s.setEv b).emit (.settle b)).setSr b false
  else if l then s.setSr b true
  else s

/-- `DUTY_INC` (41_duty_controller.md R68). -/
def increaseDuty (s : State) : State :=
  if s.duty.toNat < 100 then (s.setDuty (s.duty.toNat + 10)).reportChange else s

/-- `DUTY_DEC` (41_duty_controller.md R69). The subtraction is of naturals and stops at 0 (R71: never negative, never
wraps); DEDUCED for an unreachable duty of 1 to 9 (log 11). -/
def decreaseDuty (s : State) : State :=
  if 0 < s.duty.toNat then (s.setDuty (s.duty.toNat - 10)).reportChange else s

/-- `DIR_TOGGLE` (41_duty_controller.md R70). -/
def toggleDir (s : State) : State :=
  (s.setDir (Direction.flip s.dir)).reportChange

/-- Commit one register pair and emit its event (42_pwm_translator.md R75, 20_memory.md R39). -/
def commitPair (c : Chan) (cmp mode : Byte) (s : State) : State :=
  (s.setChan c { s.chan c with cmp := cmp, mode := mode }).emit (.pwmw c cmp mode)

/-- `PWM_INIT c`: mode bits with the duty sub-field cleared, then the compare register (42_pwm_translator.md R76). -/
def initPwm (c : Chan) (s : State) : State :=
  let mode := clearDsub s.cfg (BitVec.ofNat 8 (modeInit s.cfg c))
  commitPair c 0 mode s

/-- `PWM_APPLY c` (42_pwm_translator.md R75). A value the spec does not state (it would not fit its register, which a
configuration that passed the check excludes, R79) is a free value, counted as one draw (log 10). -/
def applyPwm (c : Chan) (s : State) : State :=
  let cmp := newCmp s.cfg s.duty.toNat
  let mode := newMode s.cfg s.duty.toNat (s.chan c).mode
  let s' := commitPair c (cmp.getD (Config.freeCmp s.draws c)) (mode.getD (Config.freeMode s.draws c)) s
  if cmp.isSome && mode.isSome then s' else s'.countDraw

/-- `TMR_START` (42_pwm_translator.md R77). -/
def startTimer (s : State) : State :=
  (s.setTmrEn true).emit .tmrw

/-- `DIR_APPLY c` (43_direction_driver.md R83). -/
def applyDir (c : Chan) (s : State) : State :=
  (s.setChan c { s.chan c with pins := dirPins s.dir }).emit (.dirw c (dirPins s.dir))

/-- `RENDER_REQ` (44_control_pass.md R93). -/
def requestRender (s : State) : State :=
  s.emit (.render s.duty s.dir)

/-- An operation on channel c: refused when the block has no such channel (30_encoding.md R52, R55). -/
def onChannel (c : Chan) (f : State → State) (s : State) : Host.Outcome State Fault Refusal :=
  if channelExists s.cfg c then .next (f s) else .refused (.refusedEncoding .absentChannel)

end Sys2Proof.Machine
end

