-- ==== Sys2Proof/Machine/ControlPass.lean ====
section
/-! DEFINITION. The control pass and the render request (44_control_pass.md). -/

namespace Sys2Proof.Machine

/-- `RENDER_REQ` (44_control_pass.md R93). -/
def execRenderReq (s : State) : Host.Outcome State Fault Refusal :=
  .next (requestRender s)

/-- The Duty Controller operation of a button (44_control_pass.md R90). -/
def dutyOperation (b : Button) (s : State) : State :=
  match b with
  | .speedUp => increaseDuty s
  | .speedDown => decreaseDuty s
  | .dirToggle => toggleDir s

/-- The poll phase: every debouncer once, in ascending b, with its level of the stimulus (44_control_pass.md R91). -/
def pollPhase (st : Stimulus) (s : State) : State :=
  buttons.foldl (fun s b => pollButton b (level st b) (s.setPhase (.poll b))) s

/-- One turn of the duty phase: the operation of button b, if it fired (44_control_pass.md R90). -/
def dutyTurn (s : State) (b : Button) : State :=
  if s.evBit b then dutyOperation b (s.setPhase (.duty b)) else s.setPhase (.duty b)

/-- The duty phase: the fired buttons in ascending b (44_control_pass.md R90, 92_eei_decisions.md D5). -/
def dutyPhase (s : State) : State :=
  buttons.foldl dutyTurn s

/-- The commit phase: the PWM of every channel, then the direction of every channel, then one render request
(44_control_pass.md R92). -/
def commitOutputs (s : State) : State :=
  let chans := channels s.cfg
  let s := chans.foldl (fun s c => applyPwm c (s.setPhase (.commitPwm c))) s
  let s := chans.foldl (fun s c => applyDir c (s.setPhase (.commitDir c))) s
  requestRender (s.setPhase .commitRender)

/-- The commit phase runs if and only if `CHG = 1` (44_control_pass.md R92). -/
def commitPhase (s : State) : State :=
  if s.chg then commitOutputs s else s

/-- The three phases of a pass (44_control_pass.md R88, R89). -/
def runPass (st : Stimulus) (s : State) : State :=
  (commitPhase (dutyPhase (pollPhase st s.clearFlags))).setPhase .idle

/-- `PASS s` (44_control_pass.md R89): refused before the first `RESET` (60_exceptions.md R103), stuck in the
configuration-fault state (R102), else one control pass. -/
def execPass (st : Stimulus) (s : State) : Host.Outcome State Fault Refusal :=
  if s.resetSeen = false then .refused .refusedNoReset
  else if s.fault ≠ faultNone then .fault .passInConfigFault
  else .next (runPass st s)

end Sys2Proof.Machine
end

