-- ==== Sys2Proof/Machine/Debounce.lean ====
section
/-! DEFINITION. The debouncer's operation (40_debounce.md). -/

namespace Sys2Proof.Machine

/-- `DEB_POLL b, l` (40_debounce.md R64): both levels are legal and nothing is raised. -/
def execDebPoll (b : Button) (l : Bool) (s : State) : Host.Outcome State Fault Refusal :=
  .next (pollButton b l s)

end Sys2Proof.Machine
end

