-- ==== Sys2Proof/Machine/DirectionDriver.lean ====
section
/-! DEFINITION. The Motor Direction Driver's operation (43_direction_driver.md). -/

namespace Sys2Proof.Machine

/-- `DIR_APPLY c` (43_direction_driver.md R83), on a channel the block has (30_encoding.md R52). -/
def execDirApply (c : Chan) (s : State) : Host.Outcome State Fault Refusal :=
  onChannel c (applyDir c) s

end Sys2Proof.Machine
end

