-- ==== Sys2Proof/Machine/Duty.lean ====
section
/-! DEFINITION. The Duty Controller's operations (41_duty_controller.md). -/

namespace Sys2Proof.Machine

/-- `DUTY_INC` (41_duty_controller.md R68). -/
def execDutyInc (s : State) : Host.Outcome State Fault Refusal :=
  .next (increaseDuty s)

/-- `DUTY_DEC` (41_duty_controller.md R69). -/
def execDutyDec (s : State) : Host.Outcome State Fault Refusal :=
  .next (decreaseDuty s)

/-- `DIR_TOGGLE` (41_duty_controller.md R70). -/
def execDirToggle (s : State) : Host.Outcome State Fault Refusal :=
  .next (toggleDir s)

end Sys2Proof.Machine
end

