-- ==== Sys2Proof/Machine/Pwm.lean ====
section
/-! DEFINITION. The PWM translator's operations (42_pwm_translator.md). -/

namespace Sys2Proof.Machine

/-- `PWM_INIT c` (42_pwm_translator.md R76), on a channel the block has (30_encoding.md R52). -/
def execPwmInit (c : Chan) (s : State) : Host.Outcome State Fault Refusal :=
  onChannel c (initPwm c) s

/-- `PWM_APPLY c` (42_pwm_translator.md R75), on a channel the block has (30_encoding.md R52). -/
def execPwmApply (c : Chan) (s : State) : Host.Outcome State Fault Refusal :=
  onChannel c (applyPwm c) s

/-- `TMR_START` (42_pwm_translator.md R77). -/
def execTmrStart (s : State) : Host.Outcome State Fault Refusal :=
  .next (startTimer s)

end Sys2Proof.Machine
end

