-- ==== Sys2Proof/Machine/Reset.lean ====
section
/-! DEFINITION. The configuration check (60_exceptions.md R101) and the reset (70_reset_and_hazards.md R113). -/

namespace Sys2Proof.Machine

/-- `CFG_CHECK` (60_exceptions.md R101): takes the configuration fault where a check fails (R102). -/
def execCfgCheck (s : State) : Host.Outcome State Fault Refusal :=
  .next (checkConfig s)

/-- A block before its first `RESET`: every register unspecified, and the info of a fault with them (10_state.md R32;
log 18). -/
def powerOn (cfg : Config) : State where
  cfg := cfg
  sr := Config.freeSr 0
  duty := Config.freeDuty 0
  dir := Config.freeDir 0
  ch0 := freeChannel 0 0
  ch1 := freeChannel 0 1
  tmrEn := Config.freeTmrEn 0
  fault := Config.freeFault 0
  faultInfo := Config.freeFaultInfo 0
  ev := Config.freeEv 0
  chg := Config.freeChg 0
  phase := Config.freePhase 0
  trace := []
  inbox := []
  resetSeen := false
  draws := 1

/-- What `RESET` does after a check that passed (70_reset_and_hazards.md R113). -/
def initBlock (s : State) : State :=
  let s := buttons.foldl (fun s b => s.setSr b true) s
  let s := ((s.setDuty 0).setDir .cw).setTmrEn false
  let s := (channels s.cfg).foldl (fun s c => initPwm c s) s
  let s := startTimer s
  let s := (channels s.cfg).foldl (fun s c => applyDir c s) s
  (requestRender s).setPhase .idle

/-- `RESET` (70_reset_and_hazards.md R113): on a configuration fault it stops at once (60_exceptions.md R102), and
no register but `FAULT` then has a value (R114). -/
def execReset (s : State) : Host.Outcome State Fault Refusal :=
  let checked := checkConfig ((s.markReset).setPhase .init)
  if checked.fault = faultNone then .next (initBlock checked) else .next checked.forgetInternals

end Sys2Proof.Machine
end

