-- ==== Sys2Proof/Machine/Dispatch.lean ====
section
/-! DEFINITION. The meaning of every operation of the opcode map (30_encoding.md R50), one arm each. -/

namespace Sys2Proof.Machine

def exec (i : Instr) (s : State) : Host.Outcome State Fault Refusal :=
  match i with
  | .reset => Sys2Proof.Machine.execReset s
  | .debPoll b l => Sys2Proof.Machine.execDebPoll b l s
  | .dutyInc => Sys2Proof.Machine.execDutyInc s
  | .dutyDec => Sys2Proof.Machine.execDutyDec s
  | .dirToggle => Sys2Proof.Machine.execDirToggle s
  | .pwmInit c => Sys2Proof.Machine.execPwmInit c s
  | .pwmApply c => Sys2Proof.Machine.execPwmApply c s
  | .dirApply c => Sys2Proof.Machine.execDirApply c s
  | .tmrStart => Sys2Proof.Machine.execTmrStart s
  | .renderReq => Sys2Proof.Machine.execRenderReq s
  | .pass st => Sys2Proof.Machine.execPass st s
  | .cfgCheck => Sys2Proof.Machine.execCfgCheck s

end Sys2Proof.Machine
end

