-- ==== Sys2Proof/Machine/Fetch.lean ====
section
/-! DEFINITION. Taking the next presented word: the block has no program counter and no instruction memory (10_state.md
R16); its words come from the environment (00_scope.md R7), one byte each (30_encoding.md R63; log 2). -/

namespace Sys2Proof.Machine

/-- What the next presented word asks for. -/
inductive Fetched where
  /-- Nothing is presented: the block waits in the idle state (20_memory.md R43; log 4). -/
  | wait (s : State)
  /-- The word is no step (60_exceptions.md R103). -/
  | refuse (why : EncodingError)
  /-- An operation to run, on the state with the word taken and a new step's trace begun (30_encoding.md R60). -/
  | run (i : Instr) (s : State)
  deriving DecidableEq, Repr

/-- The state at the start of a step: an empty trace (30_encoding.md R60) and the given words left. -/
def State.beginStep (s : State) (rest : List Request) : State :=
  { s with trace := [], inbox := rest }

/-- Take the next word: decode it, then check who presents it (30_encoding.md R55, R63). -/
def fetch (s : State) : Fetched :=
  match s.inbox with
  | [] => .wait (s.beginStep [])
  | r :: rest =>
    match decode r.word with
    | .error why => .refuse why
    | .ok i =>
      match issueError r.issuer i with
      | some why => .refuse why
      | none => .run i (s.beginStep rest)

/-- Who issues a word: the environment issues `RESET` and `PASS` and no other word is its own (30_encoding.md R50); a
word that decodes to nothing is taken as the environment's. -/
def issuerOf (w : Byte) : Issuer :=
  match decode w with
  | .ok i => if i.isStep then .environment else .sequencer
  | .error _ => .environment

/-- Present a word as the very next one, by its issuer. -/
def State.present (s : State) (w : Byte) : State :=
  { s with inbox := { issuer := issuerOf w, word := w } :: s.inbox }

end Sys2Proof.Machine
end

