-- ==== Sys2Proof/Machine/Step.lean ====
section
/-! DEFINITION. One step of the block: the next presented word, run to completion (00_scope.md R7, 20_memory.md R44). -/

namespace Sys2Proof.Machine

/-- One step (00_scope.md R7). -/
def step (s : State) : Host.Outcome State Fault Refusal :=
  match fetch s with
  | .wait t => .next t
  | .refuse why => .refused (.refusedEncoding why)
  | .run i t => exec i t

/-- The state with a row's word presented as the very next one. Every word is one byte (30_encoding.md R63). -/
def State.withFetchWord (s : State) (_nbits w : Nat) : State :=
  s.present (BitVec.ofNat 8 w)

end Sys2Proof.Machine
end

