-- ==== Sys2Proof/Machine/Assembler.lean ====
section
/-! DEFINITION. The spec's assembly lines (30_encoding.md R61) and pseudo-instructions (R62), on lines already cut into
tokens (a comma ends a token and is none; log 17). -/

namespace Sys2Proof.Machine

/-- The pseudo-instructions (30_encoding.md R62). -/
inductive Pseudo where
  | idle
  | holdUp
  | holdDown
  | holdTog
  | clickUp
  | clickDown
  | clickTog
  deriving DecidableEq, Repr, Inhabited

/-- The expansion of a pseudo-instruction (30_encoding.md R62). -/
def Pseudo.expand : Pseudo → List Instr
  | .idle => [.pass 0b111]
  | .holdUp => [.pass 0b110]
  | .holdDown => [.pass 0b101]
  | .holdTog => [.pass 0b011]
  | .clickUp => [.pass 0b110, .pass 0b111]
  | .clickDown => [.pass 0b101, .pass 0b111]
  | .clickTog => [.pass 0b011, .pass 0b111]

/-- A 1-bit field as a token. -/
def bitToken (x : Bool) : String :=
  if x then "1" else "0"

/-- The field `b` as a token (30_encoding.md R51, R61). -/
def buttonToken : Button → String
  | .speedUp => "0"
  | .speedDown => "1"
  | .dirToggle => "2"

/-- The field `c` as a token (30_encoding.md R61). -/
def chanToken (c : Chan) : String :=
  bitToken (decide (c = 1))

/-- The field `s` as the binary literal `0b<tog><down><up>` (30_encoding.md R61). -/
def stimulusToken (st : Stimulus) : String :=
  match st.toNat with
  | 0 => "0b000"
  | 1 => "0b001"
  | 2 => "0b010"
  | 3 => "0b011"
  | 4 => "0b100"
  | 5 => "0b101"
  | 6 => "0b110"
  | _ => "0b111"

/-- The tokens of an operation's line (30_encoding.md R61). -/
def asmTokens : Instr → List String
  | .reset => ["RESET"]
  | .debPoll b l => ["DEB_POLL", buttonToken b, bitToken l]
  | .dutyInc => ["DUTY_INC"]
  | .dutyDec => ["DUTY_DEC"]
  | .dirToggle => ["DIR_TOGGLE"]
  | .pwmInit c => ["PWM_INIT", chanToken c]
  | .pwmApply c => ["PWM_APPLY", chanToken c]
  | .dirApply c => ["DIR_APPLY", chanToken c]
  | .tmrStart => ["TMR_START"]
  | .renderReq => ["RENDER_REQ"]
  | .pass st => ["PASS", stimulusToken st]
  | .cfgCheck => ["CFG_CHECK"]

/-- A 1-bit field read from a token. -/
def parseBit (t : String) : Option Bool :=
  if t = "0" then some false else if t = "1" then some true else none

/-- The field `b` read from a token. -/
def parseButton (t : String) : Option Button :=
  if t = "0" then some .speedUp
  else if t = "1" then some .speedDown
  else if t = "2" then some .dirToggle
  else none

/-- The field `c` read from a token. -/
def parseChan (t : String) : Option Chan :=
  (parseBit t).map decodeChan

/-- The field `s` read from a token. -/
def parseStimulus (t : String) : Option Stimulus :=
  [(0 : Stimulus), 1, 2, 3, 4, 5, 6, 7].find? (fun st => stimulusToken st == t)

/-- An operation without a field (30_encoding.md R61). -/
def parsePlain (t : String) : Option (List Instr) :=
  if t = "RESET" then some [.reset]
  else if t = "DUTY_INC" then some [.dutyInc]
  else if t = "DUTY_DEC" then some [.dutyDec]
  else if t = "DIR_TOGGLE" then some [.dirToggle]
  else if t = "TMR_START" then some [.tmrStart]
  else if t = "RENDER_REQ" then some [.renderReq]
  else if t = "CFG_CHECK" then some [.cfgCheck]
  else if t = "IDLE" then some Pseudo.idle.expand
  else if t = "HOLD.UP" then some Pseudo.holdUp.expand
  else if t = "HOLD.DOWN" then some Pseudo.holdDown.expand
  else if t = "HOLD.TOG" then some Pseudo.holdTog.expand
  else if t = "CLICK.UP" then some Pseudo.clickUp.expand
  else if t = "CLICK.DOWN" then some Pseudo.clickDown.expand
  else if t = "CLICK.TOG" then some Pseudo.clickTog.expand
  else none

/-- An operation with one field (30_encoding.md R61). -/
def parseUnary (op t : String) : Option (List Instr) :=
  if op = "PWM_INIT" then (parseChan t).map fun c => [.pwmInit c]
  else if op = "PWM_APPLY" then (parseChan t).map fun c => [.pwmApply c]
  else if op = "DIR_APPLY" then (parseChan t).map fun c => [.dirApply c]
  else if op = "PASS" then (parseStimulus t).map fun st => [.pass st]
  else none

/-- The operations of one line; the token `;` starts a comment (30_encoding.md R61, R62). -/
def parseLine (tokens : List String) : Option (List Instr) :=
  match tokens.takeWhile (fun t => decide (t ≠ ";")) with
  | [] => some []
  | [t] => parsePlain t
  | [op, t] => parseUnary op t
  | [op, t, u] =>
    if op = "DEB_POLL" then
      match parseButton t, parseBit u with
      | some b, some l => some [.debPoll b l]
      | _, _ => none
    else none
  | _ => none

/-- The bytes of a stimulus program: lines of `RESET`, `PASS` and pseudo-instructions only, their words in order
(30_encoding.md R61, R63). -/
def assemble : List (List String) → Option (List Byte)
  | [] => some []
  | line :: lines =>
    match parseLine line, assemble lines with
    | some is, some rest => if is.all Instr.isStep then some (is.map encode ++ rest) else none
    | _, _ => none

end Sys2Proof.Machine
end

