-- ==== Sys2Proof/Machine/Observe.lean ====
section
/-! DEFINITION. What an observer of the block sees at a step boundary (00_scope.md R8): the registers of 10_state.md R15 but
for the transients `EV`, `CHG` (R24, R25) and the hidden `PHASE` (R28), and the step's ordered trace. -/

namespace Sys2Proof.Machine

/-- The registers an observer reads while `FAULT = NONE`. -/
structure Registers where
  sr : BitVec 3
  duty : BitVec 7
  dir : Direction
  /-- The registers of the channels the block has, channel 0 first. -/
  chans : List Channel
  tmrEn : Bool
  deriving DecidableEq, Repr

/-- The observable part of a state. DESIGN CHOICE (log 21): the name of the failed check, which 60_exceptions.md R100 records
as the fault's info, is not in it, because R8 lists the registers of 10_state.md and the events only and R33 lets no
observation read added state. -/
structure Observation where
  fault : BitVec 2
  /-- None outside `FAULT = NONE`: the registers then have no value and no claim may read them (60_exceptions.md R102,
  70_reset_and_hazards.md R114; log 21). -/
  registers : Option Registers
  trace : List Event
  deriving DecidableEq, Repr

/-- The registers of a state that an observer reads (00_scope.md R8). -/
def State.registers (s : State) : Registers where
  sr := s.sr
  duty := s.duty
  dir := s.dir
  chans := (channels s.cfg).map s.chan
  tmrEn := s.tmrEn

/-- The observation of a state (00_scope.md R8). -/
def State.observe (s : State) : Observation where
  fault := s.fault
  registers := if s.fault = faultNone then some s.registers else none
  trace := s.trace

/-- The state in which the environment has presented one word and no other waits (00_scope.md R7; log 2). -/
def State.presentOnly (s : State) (w : Byte) : State :=
  { s with inbox := [{ issuer := .environment, word := w }] }

/-- What an observer sees of the steps the environment's words cause, one word after another, until one has no step. -/
def observeRun : List Byte → State → List (Host.Outcome Observation Fault Refusal)
  | [], _ => []
  | w :: ws, s =>
    match step (s.presentOnly w) with
    | .next t => .next t.observe :: observeRun ws t
    | .fault f => [.fault f]
    | .refused r => [.refused r]

end Sys2Proof.Machine
end

