-- ==== Sys2Proof/Safety.lean ====
section
/-! DEFINITION. What a good state and a good run of the block are, in the terms the claims use (10_state.md R31,
43_direction_driver.md R84, R85, 44_control_pass.md R97, R98). -/

namespace Sys2Proof.Machine

/-- A configuration that `CFG_CHECK` accepts (60_exceptions.md R101). -/
abbrev ConfigValid (cfg : Config) : Prop :=
  cfgError cfg = none

/-- A legal duty: 0, 10, ..., 100 (30_encoding.md R58). -/
abbrev DutyLegal (d : BitVec 7) : Prop :=
  d.toNat ≤ 100 ∧ d.toNat % 10 = 0

/-- Exactly one of a channel's two lines is asserted (43_direction_driver.md R84). -/
abbrev PinsLegal (p : BitVec 2) : Prop :=
  p = 0b10 ∨ p = 0b01

/-- What holds of a channel's registers in the middle of a pass too: legal pins (43_direction_driver.md R84), the mode
bits those of `MODE_INIT[c]` (10_state.md R21), DSUB 0 in an 8-bit block (20_memory.md R36). -/
abbrev ChannelSound (cfg : Config) (c : Chan) (ch : Channel) : Prop :=
  PinsLegal ch.pins ∧ clearDsub cfg ch.mode = clearDsub cfg (BitVec.ofNat 8 (modeInit cfg c)) ∧
    (cfg.res = 8 → dsub cfg ch.mode = 0)

/-- A block in normal operation (`FAULT = NONE`): the clauses of 10_state.md R31 that every micro-operation keeps. -/
abbrev Operating (s : State) : Prop :=
  s.fault = faultNone ∧ s.faultInfo = none ∧ ConfigValid s.cfg ∧ DutyLegal s.duty ∧ s.tmrEn = true ∧
    s.phase = .idle ∧ ∀ c ∈ channels s.cfg, ChannelSound s.cfg c (s.chan c)

/-- A block in the configuration-fault state (60_exceptions.md R100, R102): the check that fails is the one recorded. -/
abbrev ConfigFaulted (s : State) : Prop :=
  s.fault = faultConfig ∧ s.faultInfo = cfgError s.cfg ∧ ¬ConfigValid s.cfg

/-- The invariant of every step, a unit micro-operation's too: after the first `RESET` the block is in normal operation or
in the configuration-fault state (10_state.md R27, R31; 43_direction_driver.md R84). -/
abbrev BlockInv (s : State) : Prop :=
  s.resetSeen = true → Operating s ∨ ConfigFaulted s

/-- Channel c's outputs are the committed ones: the pin pattern of `DIR` and the register pair `PWM_APPLY` computes from
`DUTY` (10_state.md R31 items 2 to 4, 44_control_pass.md R98). -/
abbrev Committed (s : State) (c : Chan) : Prop :=
  (s.chan c).pins = dirPins s.dir ∧
    (s.cfg.res = 10 → (pairValue s.cfg (s.chan c)).toNat = s.duty.toNat * 4 * (s.cfg.period + 1) / 100) ∧
    (s.cfg.res = 8 → (s.chan c).cmp.toNat = s.duty.toNat * s.cfg.period / 100)

/-- Only the environment presents words (00_scope.md R7, R9). -/
abbrev EnvironmentOnly (s : State) : Prop :=
  ∀ r ∈ s.inbox, r.issuer = .environment

/-- In normal operation every channel the block has shows the committed outputs (10_state.md R31). -/
abbrev OutputsCommitted (s : State) : Prop :=
  s.resetSeen = true → s.fault = faultNone → ∀ c ∈ channels s.cfg, Committed s c

/-- The invariant of step boundaries when only the environment presents words (10_state.md R31, 44_control_pass.md R98). -/
abbrev BoundaryInv (s : State) : Prop :=
  BlockInv s ∧ EnvironmentOnly s ∧ OutputsCommitted s

/-- Button b fires in a pass with stimulus st from state s: its sample is pressed and its debouncer armed (40_debounce.md
R64). -/
def firedBy (st : Stimulus) (s : State) (b : Button) : Bool :=
  !level st b && s.srBit b

/-- The settle events of a pass, in polling order (44_control_pass.md R91, 40_debounce.md R67). -/
def settles (st : Stimulus) (s : State) : List Event :=
  (buttons.filter (firedBy st s)).map .settle

/-- The states after each of a sequence of passes, each pass one step presented by the environment to the state the pass
before it left (00_scope.md R7, 44_control_pass.md R97); the list ends early where a pass has no step. -/
def passStates : List Stimulus → State → List State
  | [], _ => []
  | st :: sts, s =>
    match step { s with inbox := [{ issuer := .environment, word := encode (.pass st) }] } with
    | .next t => t :: passStates sts t
    | .fault _ => []
    | .refused _ => []

/-- A micro-operation or step meaning repeated n times (41_duty_controller.md R71). -/
def repeatExec (i : Instr) : Nat → State → Option State
  | 0, s => some s
  | n + 1, s =>
    match exec i s with
    | .next t => repeatExec i n t
    | .fault _ => none
    | .refused _ => none

/-- The number of maximal runs of pressed (0) samples in a sequence of levels, `prev` being the level before it
(40_debounce.md R65). -/
def pressedRuns : (prev : Bool) → List Bool → Nat
  | _, [] => 0
  | prev, l :: ls => (if prev && !l then 1 else 0) + pressedRuns l ls

/-- The reserved and illegal words, as 30_encoding.md R55 lists them. -/
abbrev ReservedWord (cfg : Config) (w : Byte) : Prop :=
  w = 0x13 ∨ w = 0x17 ∨ (0x01 ≤ w ∧ w ≤ 0x0F) ∨ (0x18 ≤ w ∧ w ≤ 0x1F) ∨ (0x23 ≤ w ∧ w ≤ 0x2F) ∨
    (0x32 ≤ w ∧ w ≤ 0x3F) ∨ (0x42 ≤ w ∧ w ≤ 0x4F) ∨ (0x52 ≤ w ∧ w ≤ 0x5F) ∨ (0x61 ≤ w ∧ w ≤ 0x6F) ∨
    (0x71 ≤ w ∧ w ≤ 0x7F) ∨ (0x88 ≤ w ∧ w ≤ 0x8F) ∨ 0x91 ≤ w ∨
    (cfg.nCh = 1 ∧ (w = 0x31 ∨ w = 0x41 ∨ w = 0x51))

end Sys2Proof.Machine
end

