-- ==== Sys2Proof/Certificates/Slice0/Obligations.lean ====
section
/-! DEFINITION. The statements for the provers, from the numbered rules of spec/. A frame is written
`t = { s with f := t.f, … }`: t differs from s at most in the fields named. The block has no memory (10_state.md R26), so
no frame speaks of one. -/

open Sys2Proof Sys2Proof.Machine

/-! Encoding. -/

/-- Words written out from the opcode map decode to the operations of their rows (30_encoding.md R50, R51, R53, R54). -/
def Obligations.OpcodeMapWordsDecode : Prop :=
  decode 0b00000000#8 = .ok .reset ∧ decode 0b00010000#8 = .ok (.debPoll .speedUp false) ∧
    decode 0b00010101#8 = .ok (.debPoll .speedDown true) ∧ decode 0b00010110#8 = .ok (.debPoll .dirToggle true) ∧
    decode 0b00100000#8 = .ok .dutyInc ∧ decode 0b00100001#8 = .ok .dutyDec ∧ decode 0b00100010#8 = .ok .dirToggle ∧
    decode 0b00110000#8 = .ok (.pwmInit 0) ∧ decode 0b00110001#8 = .ok (.pwmInit 1) ∧
    decode 0b01000001#8 = .ok (.pwmApply 1) ∧ decode 0b01010001#8 = .ok (.dirApply 1) ∧
    decode 0b01100000#8 = .ok .tmrStart ∧ decode 0b01110000#8 = .ok .renderReq ∧
    decode 0b10000110#8 = .ok (.pass 0b110) ∧ decode 0b10010000#8 = .ok .cfgCheck

/-- Decoding the word of any operation gives the operation back, every operand at every value (30_encoding.md R50, R59). -/
def Obligations.DecodeInvertsEncode : Prop :=
  ∀ i : Instr, decode (encode i) = .ok i

/-- A word that decodes is the word of the operation it decodes to: no operation has two words (30_encoding.md R50). -/
def Obligations.EncodeInvertsDecode : Prop :=
  ∀ (w : Byte) (i : Instr), decode w = .ok i → encode i = w

/-- The reserved and illegal words of R55 give no step, whoever presents them, and every other word is an operation the
block has (30_encoding.md R55). -/
def Obligations.ReservedWordsRefused : Prop :=
  (∀ (s : State) (r : Request) (rest : List Request), s.inbox = r :: rest → ReservedWord s.cfg r.word →
      ∃ why, step s = .refused (.refusedEncoding why)) ∧
    (∀ (cfg : Config) (w : Byte), ConfigValid cfg → ¬ReservedWord cfg w →
      ∃ i, decode w = .ok i ∧ i.wellFormed cfg = true)

/-- A stimulus program holds only `RESET` (0x00) and `PASS` (0x80 to 0x87): every other byte of the environment's is refused
as an encoding (30_encoding.md R63). -/
def Obligations.EnvironmentMayIssueOnlySteps : Prop :=
  ∀ (s : State) (w : Byte) (rest : List Request), s.inbox = { issuer := .environment, word := w } :: rest →
    ¬(w = 0x00 ∨ (0x80 ≤ w ∧ w ≤ 0x87)) → ∃ why, step s = .refused (.refusedEncoding why)

/-- When the word presented next decodes to an operation its issuer may present, the step is the operation's meaning on the
state with that word taken and an empty trace (00_scope.md R7, 30_encoding.md R60; log 2, log 5). -/
def Obligations.StepRunsPresentedWord : Prop :=
  ∀ (s : State) (r : Request) (rest : List Request) (i : Instr), s.inbox = r :: rest → decode r.word = .ok i →
    issueError r.issuer i = none → step s = exec i { s with trace := [], inbox := rest }

/-- With nothing presented the block waits: only the trace becomes empty. The model's choice (log 4). -/
def Obligations.StepWaitsWithoutWord : Prop :=
  ∀ s : State, s.inbox = [] → step s = .next { s with trace := [] }

/-- A row's word put where the step takes its next word is run by that step. The model's interface (log 2, log 3). -/
def Obligations.FetchWordRunsRow : Prop :=
  ∀ (s : State) (i : Instr) (nbits : Nat),
    step (s.withFetchWord nbits (encode i).toNat) = exec i { s with trace := [] }

/-- An operation is refused as naming an absent channel exactly when it does (30_encoding.md R52, R55). -/
def Obligations.AbsentChannelRefused : Prop :=
  ∀ (i : Instr) (s : State),
    exec i s = .refused (.refusedEncoding .absentChannel) ↔ i.wellFormed s.cfg = false

/-- The bytes of the pseudo-instructions (30_encoding.md R62). -/
def Obligations.PseudoInstructionBytes : Prop :=
  assemble [["IDLE"]] = some [0x87] ∧ assemble [["HOLD.UP"]] = some [0x86] ∧ assemble [["HOLD.DOWN"]] = some [0x85] ∧
    assemble [["HOLD.TOG"]] = some [0x83] ∧ assemble [["CLICK.UP"]] = some [0x86, 0x87] ∧
    assemble [["CLICK.DOWN"]] = some [0x85, 0x87] ∧ assemble [["CLICK.TOG"]] = some [0x83, 0x87]

/-! The debouncer. -/

/-- `DEB_POLL b, l` in every state: it fires (event, settle, `SR[b]` to 0) when armed and pressed; `SR[b]` takes the level
otherwise too; nothing else changes (40_debounce.md R64). -/
def Obligations.DebPollFollowsTable : Prop :=
  ∀ (b : Button) (l : Bool) (s : State), ∃ t, exec (.debPoll b l) s = .next t ∧
    t = { s with sr := t.sr, ev := t.ev, trace := t.trace } ∧
    (∀ d, t.srBit d = if d = b then l else s.srBit d) ∧
    (if s.srBit b = true ∧ l = false then
      (∀ d, t.evBit d = if d = b then true else s.evBit d) ∧ t.trace = s.trace ++ [.settle b]
    else t.ev = s.ev ∧ t.trace = s.trace)

/-- Over any sequence of passes from armed debouncers, button b fires exactly in the passes whose level is 0 with no pass
before it or a level of 1 in the pass before it, and it fires once per maximal run of 0 (40_debounce.md R65). -/
def Obligations.PressEventsAreRunsOfZero : Prop :=
  ∀ (s : State) (sts : List Stimulus) (b : Button), s.resetSeen = true → s.fault = faultNone → s.sr = 0b111 →
    (passStates sts s).length = sts.length ∧
    (∀ (n : Nat) (st : Stimulus) (t : State), sts[n]? = some st → (passStates sts s)[n]? = some t →
      (Event.settle b ∈ t.trace ↔
        level st b = false ∧ (n = 0 ∨ ∃ p, sts[n - 1]? = some p ∧ level p b = true))) ∧
    (passStates sts s).countP (fun t => decide (Event.settle b ∈ t.trace)) =
      pressedRuns true (sts.map (fun st => level st b))

/-- A `RESET` arms every debouncer, and a first pass that samples a button pressed fires it (70_reset_and_hazards.md
R124). -/
def Obligations.HeldButtonFiresAfterReset : Prop :=
  ∀ (s : State) (b : Button) (st : Stimulus), ConfigValid s.cfg → level st b = false →
    ∃ t u, exec .reset s = .next t ∧ (∀ d, t.srBit d = true) ∧ exec (.pass st) t = .next u ∧ u.evBit b = true ∧
      ∃ events, u.trace = t.trace ++ events ∧ Event.settle b ∈ events

/-- A press sampled in one pass and a release in the next give exactly one press event from an armed debouncer
(30_encoding.md R62, `CLICK`). -/
def Obligations.ClickGivesOnePressEvent : Prop :=
  ∀ (s : State) (b : Button) (press release : Stimulus), s.resetSeen = true → s.fault = faultNone →
    s.srBit b = true → level press b = false → level release b = true →
    ∃ t u, passStates [press, release] s = [t, u] ∧ Event.settle b ∈ t.trace ∧ Event.settle b ∉ u.trace ∧
      u.srBit b = true

/-! The Duty Controller. -/

/-- `DUTY_INC` adds 10 below 100 and reports the change; at 100 it does nothing (41_duty_controller.md R68). -/
def Obligations.DutyIncSaturatesAtHundred : Prop :=
  ∀ s : State, ∃ t, exec .dutyInc s = .next t ∧ t = { s with duty := t.duty, chg := t.chg } ∧
    (s.duty.toNat < 100 → t.duty.toNat = s.duty.toNat + 10 ∧ t.chg = true) ∧ (100 ≤ s.duty.toNat → t = s)

/-- `DUTY_DEC` takes 10 from a legal duty above 0 and reports the change; at 0 it does nothing (41_duty_controller.md
R69). -/
def Obligations.DutyDecSaturatesAtZero : Prop :=
  ∀ s : State, DutyLegal s.duty → ∃ t, exec .dutyDec s = .next t ∧ t = { s with duty := t.duty, chg := t.chg } ∧
    (0 < s.duty.toNat → t.duty.toNat + 10 = s.duty.toNat ∧ t.chg = true) ∧ (s.duty.toNat = 0 → t = s)

/-- `DIR_TOGGLE` exchanges CW and CCW, always reports a change, and is its own inverse (41_duty_controller.md R70). -/
def Obligations.DirToggleFlips : Prop :=
  ∀ s : State, ∃ t u, exec .dirToggle s = .next t ∧ t = { s with dir := t.dir, chg := true } ∧
    (s.dir = .cw → t.dir = .ccw) ∧ (s.dir = .ccw → t.dir = .cw) ∧
    exec .dirToggle t = .next u ∧ u.dir = s.dir

/-- n increases from a legal duty d give min(100, d + 10n), n decreases max(0, d - 10n): the duty saturates at both ends and
never wraps (41_duty_controller.md R71). -/
def Obligations.RepeatedDutySteps : Prop :=
  ∀ (n : Nat) (s : State), DutyLegal s.duty →
    (∃ t, repeatExec .dutyInc n s = some t ∧ t = { s with duty := t.duty, chg := t.chg } ∧
      t.duty.toNat = min 100 (s.duty.toNat + 10 * n)) ∧
    (∃ t, repeatExec .dutyDec n s = some t ∧ t = { s with duty := t.duty, chg := t.chg } ∧
      t.duty.toNat = s.duty.toNat - 10 * n)

/-! The PWM translator. -/

/-- The PWM value of every duty percentage fits its registers under a valid configuration, is non-decreasing, and is 0 at
duty 0 and `4*(PERIOD+1)` or `PERIOD` at duty 100 (42_pwm_translator.md R79). -/
def Obligations.PwmValueFitsRegisters : Prop :=
  ∀ (cfg : Config) (d e : Nat), ConfigValid cfg → d ≤ e → e ≤ 100 →
    ∃ p q, pwmValue cfg d = some p ∧ pwmValue cfg e = some q ∧ p ≤ q ∧
      (cfg.res = 10 → cfg.period ≤ 254 ∧ q ≤ 4 * (cfg.period + 1) ∧ 4 * (cfg.period + 1) ≤ 1020 ∧ q >>> 2 ≤ 255 ∧
        q &&& 3 ≤ 3 ∧ pwmValue cfg 0 = some 0 ∧ pwmValue cfg 100 = some (4 * (cfg.period + 1))) ∧
      (cfg.res = 8 → q ≤ cfg.period ∧ cfg.period ≤ 255 ∧ pwmValue cfg 0 = some 0 ∧
        pwmValue cfg 100 = some cfg.period)

/-- `PWM_APPLY c` under a valid configuration: the pair it commits in either resolution, its event, and its frame
(42_pwm_translator.md R74, R75; 20_memory.md R42). -/
def Obligations.PwmApplyWritesPair : Prop :=
  ∀ (c : Chan) (s : State), ConfigValid s.cfg → channelExists s.cfg c = true → s.duty.toNat ≤ 100 →
    ∃ t, exec (.pwmApply c) s = .next t ∧ t = { s with ch0 := t.ch0, ch1 := t.ch1, trace := t.trace } ∧
      (∀ d, d ≠ c → t.chan d = s.chan d) ∧ (t.chan c).pins = (s.chan c).pins ∧
      (s.cfg.res = 10 →
        (t.chan c).cmp.toNat = (s.duty.toNat * 4 * (s.cfg.period + 1) / 100) >>> 2 ∧
        (t.chan c).mode = ((s.chan c).mode &&& ~~~(0b11#8 <<< s.cfg.modeShift)) |||
          (BitVec.ofNat 8 ((s.duty.toNat * 4 * (s.cfg.period + 1) / 100) &&& 0b11) <<< s.cfg.modeShift)) ∧
      (s.cfg.res = 8 →
        (t.chan c).cmp.toNat = s.duty.toNat * s.cfg.period / 100 ∧ (t.chan c).mode = (s.chan c).mode) ∧
      t.trace = s.trace ++ [.pwmw c (t.chan c).cmp (t.chan c).mode]

/-- For 10 bits, `CMP[c]` is the value shifted right by 2, DSUB its two low bits, and together they read back as the value
(20_memory.md R35). -/
def Obligations.TenBitSplitReadsBack : Prop :=
  ∀ (c : Chan) (s : State), ConfigValid s.cfg → s.cfg.res = 10 → channelExists s.cfg c = true → s.duty.toNat ≤ 100 →
    ∃ t p, pwmValue s.cfg s.duty.toNat = some p ∧ exec (.pwmApply c) s = .next t ∧
      (t.chan c).cmp.toNat = p >>> 2 ∧ (dsub s.cfg (t.chan c).mode).toNat = p &&& 3 ∧
      (pairValue s.cfg (t.chan c)).toNat = p

/-- For 8 bits the value lies in `CMP[c]`, DSUB keeps its 0, and the two read together are the value shifted left by 2
(20_memory.md R36). -/
def Obligations.EightBitPairReadsShifted : Prop :=
  ∀ (c : Chan) (s : State), ConfigValid s.cfg → s.cfg.res = 8 → channelExists s.cfg c = true → s.duty.toNat ≤ 100 →
    dsub s.cfg (s.chan c).mode = 0 →
    ∃ t p, pwmValue s.cfg s.duty.toNat = some p ∧ exec (.pwmApply c) s = .next t ∧ (t.chan c).cmp.toNat = p ∧
      (t.chan c).mode = (s.chan c).mode ∧ dsub s.cfg (t.chan c).mode = 0 ∧
      (pairValue s.cfg (t.chan c)).toNat = p <<< 2

/-- Duty 0 is a true 0% in both resolutions, whatever the compare register and the 10-bit sub-field held before
(42_pwm_translator.md R78). In an 8-bit block DSUB holds the 0 of initialization, a clause of `BlockInv`. -/
def Obligations.ZeroDutyGivesZeroOutput : Prop :=
  ∀ (c : Chan) (s : State), BlockInv s → s.resetSeen = true → s.fault = faultNone → channelExists s.cfg c = true →
    s.duty = 0 → ∃ t, exec (.pwmApply c) s = .next t ∧ (t.chan c).cmp = 0 ∧ dsub s.cfg (t.chan c).mode = 0

/-- At `PERIOD = 124` and 10 bits the value is five times the duty, and DSUB is 2 for an odd number of tens and 0 for an even
one (42_pwm_translator.md R80). -/
def Obligations.ExactValuesAtPeriod124 : Prop :=
  ∀ (c : Chan) (s : State), ConfigValid s.cfg → s.cfg.res = 10 → s.cfg.period = 124 → channelExists s.cfg c = true →
    DutyLegal s.duty → ∃ t, exec (.pwmApply c) s = .next t ∧
      pwmValue s.cfg s.duty.toNat = some (5 * s.duty.toNat) ∧
      (t.chan c).cmp.toNat = (5 * s.duty.toNat) >>> 2 ∧
      (dsub s.cfg (t.chan c).mode).toNat = (5 * s.duty.toNat) &&& 3 ∧
      (dsub s.cfg (t.chan c).mode).toNat = if s.duty.toNat / 10 % 2 = 1 then 2 else 0

/-- Applying twice with the same duty writes the same values: only a second event (42_pwm_translator.md R75, 20_memory.md
R41). -/
def Obligations.PwmApplyTwiceSameRegisters : Prop :=
  ∀ (c : Chan) (s : State), ConfigValid s.cfg → channelExists s.cfg c = true → s.duty.toNat ≤ 100 →
    ∃ t u, exec (.pwmApply c) s = .next t ∧ exec (.pwmApply c) t = .next u ∧ u = { t with trace := u.trace }

/-- `PWM_INIT c` writes `MODE_INIT[c]` with the duty sub-field cleared and a compare value of 0 (42_pwm_translator.md
R76). -/
def Obligations.PwmInitClearsSubfield : Prop :=
  ∀ (c : Chan) (s : State), channelExists s.cfg c = true →
    ∃ t, exec (.pwmInit c) s = .next t ∧ t = { s with ch0 := t.ch0, ch1 := t.ch1, trace := t.trace } ∧
      (∀ d, d ≠ c → t.chan d = s.chan d) ∧ (t.chan c).pins = (s.chan c).pins ∧
      (t.chan c).mode = BitVec.ofNat 8 (modeInit s.cfg c) &&& ~~~(0b11#8 <<< s.cfg.modeShift) ∧
      (t.chan c).cmp = 0 ∧ t.trace = s.trace ++ [.pwmw c 0 (t.chan c).mode] ∧
      (ConfigValid s.cfg → dsub s.cfg (t.chan c).mode = 0)

/-- `TMR_START` sets `TMR_EN` and emits its event, nothing else (42_pwm_translator.md R77). -/
def Obligations.TmrStartEnablesTimer : Prop :=
  ∀ s : State, exec .tmrStart s = .next { s with tmrEn := true, trace := s.trace ++ [.tmrw] }

/-- No operation ends with a running timer stopped (10_state.md R23). -/
def Obligations.TimerIsNeverStopped : Prop :=
  ∀ (i : Instr) (s t : State), ConfigValid s.cfg → s.tmrEn = true → exec i s = .next t → t.tmrEn = true

/-! The direction driver. -/

/-- `DIR_APPLY c` writes the pattern of `DIR` to channel c's lines, (1,0) for CW and (0,1) for CCW, and emits it
(43_direction_driver.md R83). -/
def Obligations.DirApplySetsPattern : Prop :=
  ∀ (c : Chan) (s : State), channelExists s.cfg c = true →
    ∃ t, exec (.dirApply c) s = .next t ∧ t = { s with ch0 := t.ch0, ch1 := t.ch1, trace := t.trace } ∧
      (∀ d, d ≠ c → t.chan d = s.chan d) ∧ (t.chan c).cmp = (s.chan c).cmp ∧ (t.chan c).mode = (s.chan c).mode ∧
      (s.dir = .cw → (t.chan c).pins = 0b10) ∧ (s.dir = .ccw → (t.chan c).pins = 0b01) ∧
      t.trace = s.trace ++ [.dirw c (t.chan c).pins]

/-- Every direction write of every step asserts exactly one of the two lines, in the middle of a step too
(43_direction_driver.md R84). -/
def Obligations.EveryDirectionWriteIsLegal : Prop :=
  ∀ (s t : State) (c : Chan) (p : BitVec 2), step s = .next t → Event.dirw c p ∈ t.trace → PinsLegal p

/-- Two direction toggles, each in a committing pass, restore the direction and every channel's lines
(43_direction_driver.md R86). -/
def Obligations.TwoTogglesRestorePins : Prop :=
  ∀ (s : State) (st1 st2 st3 : Stimulus), BoundaryInv s → s.resetSeen = true → s.fault = faultNone →
    s.srBit .dirToggle = true → level st1 .dirToggle = false → level st2 .dirToggle = true →
    level st3 .dirToggle = false →
    ∃ t1 t2 t3, passStates [st1, st2, st3] s = [t1, t2, t3] ∧ t1.dir = Direction.flip s.dir ∧ t3.dir = s.dir ∧
      ∀ c ∈ channels s.cfg, (t1.chan c).pins = dirPins (Direction.flip s.dir) ∧ (t3.chan c).pins = (s.chan c).pins

/-! The control pass. -/

/-- Every debouncer is polled exactly once in a pass, with its own level: `SR[b]` becomes the level, `EV[b]` says whether
button b fired (44_control_pass.md R91). -/
def Obligations.PassPollsEveryButton : Prop :=
  ∀ (st : Stimulus) (s : State), s.resetSeen = true → s.fault = faultNone →
    ∃ t, exec (.pass st) s = .next t ∧ t.phase = .idle ∧
      ∀ b, t.srBit b = level st b ∧ t.evBit b = (!level st b && s.srBit b)

/-- The operations of the fired buttons run in ascending b: increase, then decrease, then toggle (44_control_pass.md
R90). -/
def Obligations.PassAppliesFiredOperations : Prop :=
  ∀ (st : Stimulus) (s : State), s.resetSeen = true → s.fault = faultNone → DutyLegal s.duty →
    ∃ t, exec (.pass st) s = .next t ∧
      let d1 := if firedBy st s .speedUp = true ∧ s.duty.toNat < 100 then s.duty.toNat + 10 else s.duty.toNat
      t.duty.toNat = (if firedBy st s .speedDown = true ∧ 0 < d1 then d1 - 10 else d1) ∧
        t.dir = if firedBy st s .dirToggle = true then Direction.flip s.dir else s.dir

/-- `CHG` at the end of a pass is the OR of the changes its operations reported, not a comparison of the states, and the pass
commits exactly when it is set (41_duty_controller.md R72, 44_control_pass.md R92). -/
def Obligations.PassChangeFlagIsOrOfReports : Prop :=
  ∀ (st : Stimulus) (s : State), s.resetSeen = true → s.fault = faultNone → ConfigValid s.cfg → DutyLegal s.duty →
    ∃ t events, exec (.pass st) s = .next t ∧ t.trace = s.trace ++ events ∧
      (t.chg = true ↔
        (firedBy st s .speedUp = true ∧ s.duty.toNat < 100) ∨
        (firedBy st s .speedDown = true ∧ (0 < s.duty.toNat ∨ firedBy st s .speedUp = true)) ∨
        firedBy st s .dirToggle = true) ∧
      (t.chg = true ↔ Event.render t.duty t.dir ∈ events)

/-- A committing pass emits its settles, then the PWM of every channel, then the direction of every channel, then one render
request, all with the values the pass leaves; another pass emits its settles only (44_control_pass.md R92). -/
def Obligations.PassCommitsInOrder : Prop :=
  ∀ (st : Stimulus) (s : State), s.resetSeen = true → s.fault = faultNone → ConfigValid s.cfg → DutyLegal s.duty →
    ∃ t, exec (.pass st) s = .next t ∧
      t.trace = s.trace ++ settles st s ++
        if t.chg = true then
          (channels s.cfg).map (fun c => Event.pwmw c (t.chan c).cmp (t.chan c).mode) ++
            (channels s.cfg).map (fun c => Event.dirw c (t.chan c).pins) ++ [Event.render t.duty t.dir]
        else []

/-- A pass that does not commit writes no output register, keeps `DUTY` and `DIR`, and its trace holds only settles
(44_control_pass.md R94). -/
def Obligations.PassWithoutChangeKeepsOutputs : Prop :=
  ∀ (st : Stimulus) (s t : State), exec (.pass st) s = .next t → t.chg = false →
    t = { s with sr := t.sr, ev := t.ev, chg := false, phase := .idle, trace := s.trace ++ settles st s }

/-- At the end of a committing pass every channel's lines show `DIR`, every channel's pair is the one computed from `DUTY`,
and the last event is the render of the same two (44_control_pass.md R98, 43_direction_driver.md R85). -/
def Obligations.CommittingPassIsLockStep : Prop :=
  ∀ (st : Stimulus) (s t : State), BlockInv s → exec (.pass st) s = .next t → t.chg = true →
    (∀ c ∈ channels t.cfg, Committed t c ∧ (t.cfg.res = 8 → dsub t.cfg (t.chan c).mode = 0)) ∧
      t.trace.getLast? = some (.render t.duty t.dir)

/-- The block has no terminal state: in normal operation every sequence of stimuli has all its passes (44_control_pass.md
R97). -/
def Obligations.PassesGoOnForEver : Prop :=
  ∀ (sts : List Stimulus) (s : State), s.resetSeen = true → s.fault = faultNone →
    (passStates sts s).length = sts.length ∧ ∀ t ∈ passStates sts s, t.fault = faultNone ∧ t.phase = .idle

/-- A pass reads no transient of the state it starts from: `EV`, `CHG` and `PHASE` are written before they are read
(10_state.md R24, R25, R33). -/
def Obligations.PassIgnoresTransients : Prop :=
  ∀ (st : Stimulus) (s : State) (ev : BitVec 3) (chg : Bool) (phase : Phase),
    exec (.pass st) { s with ev := ev, chg := chg, phase := phase } = exec (.pass st) s

/-- A `PASS` before the first `RESET` is refused (60_exceptions.md R103, 10_state.md R32). -/
def Obligations.PassBeforeResetRefused : Prop :=
  ∀ (st : Stimulus) (s : State), s.resetSeen = false → exec (.pass st) s = .refused .refusedNoReset

/-- In the configuration-fault state a `PASS` has no step: the block is stuck (60_exceptions.md R102). -/
def Obligations.PassStuckInConfigFault : Prop :=
  ∀ (st : Stimulus) (s : State), s.resetSeen = true → s.fault = faultConfig →
    exec (.pass st) s = .fault .passInConfigFault

/-- `RENDER_REQ` emits the current duty and direction and changes nothing else (44_control_pass.md R93). -/
def Obligations.RenderRequestCarriesState : Prop :=
  ∀ s : State, exec .renderReq s = .next { s with trace := s.trace ++ [.render s.duty s.dir] }

/-! The configuration check, the configuration fault and the reset. -/

/-- `CFG_CHECK` makes its checks in order and reports the first that fails with its name as the fault's info; on a
configuration that passes it clears `FAULT` and, which is the model's deduction (log 9), the info of a fault, and changes
nothing else (60_exceptions.md R100, R101). -/
def Obligations.CfgCheckReportsFirstFailure : Prop :=
  ∀ s : State, ∃ t, exec .cfgCheck s = .next t ∧ t.cfg = s.cfg ∧
    let okN := s.cfg.nCh = 1 ∨ s.cfg.nCh = 2
    let okR := s.cfg.res = 8 ∨ s.cfg.res = 10
    let okP := (s.cfg.res = 10 → s.cfg.period ≤ 254) ∧ (s.cfg.res = 8 → s.cfg.period ≤ 255)
    let okS := s.cfg.modeShift ≤ 6
    let okM := s.cfg.modeInit0 ≤ 255 ∧ (s.cfg.nCh = 2 → s.cfg.modeInit1 ≤ 255)
    let raised := t.fault = faultConfig ∧ t.trace = s.trace ++ [.faultw faultConfig]
    (¬okN → raised ∧ t.faultInfo = some .nChRange) ∧
      (okN ∧ ¬okR → raised ∧ t.faultInfo = some .resRange) ∧
      (okN ∧ okR ∧ ¬okP → raised ∧ t.faultInfo = some .periodOverflow) ∧
      (okN ∧ okR ∧ okP ∧ ¬okS → raised ∧ t.faultInfo = some .modeShiftRange) ∧
      (okN ∧ okR ∧ okP ∧ okS ∧ ¬okM → raised ∧ t.faultInfo = some .modeInitRange) ∧
      (okN ∧ okR ∧ okP ∧ okS ∧ okM → t = { s with fault := faultNone, faultInfo := none })

/-- `RESET` with a valid configuration leaves the state of the reset table and emits the reset's events in order; it does not
write `EV` and `CHG` (70_reset_and_hazards.md R113, R114). That no info of a fault remains is the model's deduction
(log 9). -/
def Obligations.ResetLeavesResetState : Prop :=
  ∀ s : State, ConfigValid s.cfg → ∃ t, exec .reset s = .next t ∧
    (∀ b, t.srBit b = true) ∧ t.duty = 0 ∧ t.dir = .cw ∧ t.tmrEn = true ∧ t.fault = faultNone ∧ t.faultInfo = none ∧
    t.phase = .idle ∧ t.resetSeen = true ∧
    (∀ c ∈ channels s.cfg, t.chan c =
      { cmp := 0, mode := BitVec.ofNat 8 (modeInit s.cfg c) &&& ~~~(0b11#8 <<< s.cfg.modeShift), pins := 0b10 }) ∧
    (∀ c, c ∉ channels s.cfg → t.chan c = s.chan c) ∧
    t.cfg = s.cfg ∧ t.ev = s.ev ∧ t.chg = s.chg ∧ t.inbox = s.inbox ∧ t.draws = s.draws ∧
    t.trace = s.trace ++ (channels s.cfg).map (fun c => Event.pwmw c (t.chan c).cmp (t.chan c).mode) ++ [.tmrw] ++
      (channels s.cfg).map (fun c => Event.dirw c 0b10) ++ [.render 0 .cw]

/-- Power-on is a `RESET`: from a block whose registers have no value it leaves the model's reset state, but for the
transients and the count of draws (70_reset_and_hazards.md R115). The configuration is the model's choice (log 1). -/
def Obligations.PowerOnResetReachesResetState : Prop :=
  ∃ t, exec .reset (powerOn Config.example124) = .next t ∧
    { t with ev := State.reset.ev, chg := State.reset.chg, draws := State.reset.draws } = State.reset

/-- A `RESET` discards every state: what it leaves to see depends on the configuration alone, a valid one or not
(70_reset_and_hazards.md R113, R114). What is seen is the model's choice (log 21). -/
def Obligations.ResetDiscardsHistory : Prop :=
  ∀ s1 s2 t1 t2 : State, s1.cfg = s2.cfg → s1.trace = s2.trace → exec .reset s1 = .next t1 →
    exec .reset s2 = .next t2 → t1.observe = t2.observe

/-- `RESET` with an invalid configuration stops in the configuration-fault state: `FAULT = CONFIG`, the event, every pass
stuck, and a further `RESET` faults again (60_exceptions.md R102). -/
def Obligations.InvalidConfigResetFaults : Prop :=
  ∀ s : State, ¬ConfigValid s.cfg → ∃ t u, exec .reset s = .next t ∧ t.fault = faultConfig ∧
    t.faultInfo = cfgError s.cfg ∧ t.trace = s.trace ++ [.faultw faultConfig] ∧
    (∀ st, exec (.pass st) t = .fault .passInConfigFault) ∧
    exec .reset t = .next u ∧ u.fault = faultConfig ∧ u.faultInfo = cfgError s.cfg ∧
    u.trace = t.trace ++ [.faultw faultConfig]

/-- Once `CONFIG`, `FAULT` stays: no operation, a `RESET` included, leaves the configuration-fault state of an invalid
configuration (10_state.md R27, 60_exceptions.md R108). -/
def Obligations.ConfigFaultPersists : Prop :=
  ∀ (i : Instr) (s t : State), ¬ConfigValid s.cfg → s.fault = faultConfig → exec i s = .next t → t.fault = faultConfig

/-! The whole machine. -/

/-- Which operation may write which register (10_state.md R30), under a valid configuration. -/
def Obligations.WritersOfEachRegister : Prop :=
  ∀ (i : Instr) (s t : State), ConfigValid s.cfg → exec i s = .next t →
    let resets := i = .reset
    let passes := ∃ st, i = .pass st
    (t.sr ≠ s.sr → resets ∨ passes ∨ ∃ b l, i = .debPoll b l) ∧
      (t.duty ≠ s.duty → resets ∨ passes ∨ i = .dutyInc ∨ i = .dutyDec) ∧
      (t.dir ≠ s.dir → resets ∨ passes ∨ i = .dirToggle) ∧
      (∀ c, (t.chan c).cmp ≠ (s.chan c).cmp → resets ∨ passes ∨ i = .pwmInit c ∨ i = .pwmApply c) ∧
      (∀ c, (t.chan c).mode ≠ (s.chan c).mode →
        resets ∨ i = .pwmInit c ∨ (s.cfg.res = 10 ∧ (passes ∨ i = .pwmApply c))) ∧
      (∀ c, (t.chan c).pins ≠ (s.chan c).pins → resets ∨ passes ∨ i = .dirApply c) ∧
      (t.tmrEn ≠ s.tmrEn → resets ∨ i = .tmrStart) ∧
      (t.fault ≠ s.fault → resets ∨ i = .cfgCheck) ∧
      (t.ev ≠ s.ev → passes ∨ ∃ b l, i = .debPoll b l) ∧
      (t.chg ≠ s.chg → passes ∨ i = .dutyInc ∨ i = .dutyDec ∨ i = .dirToggle)

/-- The configuration is never mutated: no step writes it (10_state.md R29). -/
def Obligations.ConfigurationIsFixed : Prop :=
  ∀ s t : State, step s = .next t → t.cfg = s.cfg

/-- No rule depends on the length of the settle delay (70_reset_and_hazards.md R126, 40_debounce.md R64). -/
def Obligations.SettleDelayIsNotRead : Prop :=
  ∀ (i : Instr) (s t : State) (d : Nat), exec i s = .next t →
    exec i { s with cfg := { s.cfg with settleDelay := d } } = .next { t with cfg := { t.cfg with settleDelay := d } }

/-- A block of one channel has no second channel: no step writes its place in State, and no operation's other effects depend
on it (10_state.md R15, 30_encoding.md R52; log 14). -/
def Obligations.AbsentChannelHasNoState : Prop :=
  ∀ (i : Instr) (s t : State) (ch : Channel), s.cfg.nCh = 1 → exec i s = .next t →
    t.ch1 = s.ch1 ∧ exec i { s with ch1 := ch } = .next { t with ch1 := ch }

/-- The reset state satisfies both invariants. -/
def Obligations.ResetSatisfiesInvariants : Prop :=
  BlockInv State.reset ∧ BoundaryInv State.reset

/-- Every step, a unit micro-operation's too, keeps the block in normal operation with a legal duty, legal pins, a running
timer and untouched mode bits, or in the configuration-fault state with the check that fails recorded (10_state.md R27,
R31; 43_direction_driver.md R84). -/
def Obligations.EveryStepKeepsBlockInv : Prop :=
  ∀ s t : State, BlockInv s → step s = .next t → BlockInv t

/-- Every step of the environment's keeps the invariants of pass boundaries: every channel shows the pattern of `DIR` and the
register pair of `DUTY` (10_state.md R31, 44_control_pass.md R98). -/
def Obligations.EveryStepKeepsBoundaryInv : Prop :=
  ∀ s t : State, BoundaryInv s → step s = .next t → BoundaryInv t

/-- `CFG_CHECK`, whatever the configuration, writes no register but `FAULT`, but that it leaves the output registers of the
block's channels and `TMR_EN` without a value where it enters the configuration-fault state (10_state.md R30,
60_exceptions.md R102). That these are then free values, counted as a draw, is the model's choice (log 7). -/
def Obligations.CfgCheckKeepsOtherRegisters : Prop :=
  ∀ s : State, ∃ t, exec .cfgCheck s = .next t ∧
    t = { s with ch0 := t.ch0, ch1 := t.ch1, tmrEn := t.tmrEn, fault := t.fault, faultInfo := t.faultInfo,
                 trace := t.trace, draws := t.draws } ∧
    (∀ c, c ∉ channels s.cfg → t.chan c = s.chan c) ∧
    (ConfigValid s.cfg → t = { s with fault := t.fault, faultInfo := t.faultInfo })

/-- No observation of any run of the environment's words reads the state the model adds (the info of the fault, the words
that wait, the count of draws) or a transient: two blocks that differ in these alone look the same for ever (10_state.md
R24, R25, R28, R33). What is observed is the model's choice (log 21). -/
def Obligations.AddedStateIsNeverObserved : Prop :=
  ∀ (ws : List Byte) (s : State) (info : Option CfgError) (inbox : List Request) (draws : Nat) (ev : BitVec 3)
    (chg : Bool) (phase : Phase), BlockInv s →
    observeRun ws { s with faultInfo := info, inbox := inbox, draws := draws, ev := ev, chg := chg, phase := phase } =
      observeRun ws s

/-- Every operation, a unit micro-operation too, under a valid configuration and from a legal duty reads none of the state
the model adds: it answers the same next state, with the added fields carried along (10_state.md R33). That `RESET` and
`CFG_CHECK` leave no info of a fault is the model's deduction (log 9). -/
def Obligations.OperationsIgnoreAddedState : Prop :=
  ∀ (i : Instr) (s t : State) (info : Option CfgError) (inbox : List Request) (draws : Nat), ConfigValid s.cfg →
    DutyLegal s.duty → exec i s = .next t →
    exec i { s with faultInfo := info, inbox := inbox, draws := draws } =
      .next { t with
        faultInfo := if i = .reset ∨ i = .cfgCheck then none else info
        inbox := inbox
        draws := draws }
end

