-- ==== Sys2Proof/Laws/Operands.lean ====
section
/-! SUPPORT. The operand forms' own lemmas: per-button bits, the channels of a configuration, the duty sub-field, the
configuration check and the PWM value. -/

namespace Sys2Proof.Machine

/-! Per-button bits. -/

theorem buttonBit_setButtonBit (v : BitVec 3) (b d : Button) (x : Bool) :
    buttonBit (setButtonBit v b x) d = if d = b then x else buttonBit v d := by
  revert v x
  cases b <;> cases d <;> decide

/-- Three-bit registers are equal when their button bits are. -/
theorem eq_of_buttonBit (v w : BitVec 3) (h : ∀ b, buttonBit v b = buttonBit w b) : v = w := by
  have h0 := h .speedUp
  have h1 := h .speedDown
  have h2 := h .dirToggle
  clear h
  revert v w
  decide

@[simp] theorem setButtonBit_same (v : BitVec 3) (b : Button) : setButtonBit v b (buttonBit v b) = v := by
  apply eq_of_buttonBit
  intro d
  rw [buttonBit_setButtonBit]
  split <;> simp_all

@[simp] theorem buttonBit_zero (b : Button) : buttonBit 0#3 b = false := by
  cases b <;> rfl

@[simp] theorem buttonBit_ones (b : Button) : buttonBit 7#3 b = true := by
  cases b <;> decide

/-! Directions. -/

@[simp] theorem direction_flip_flip (d : Direction) : Direction.flip (Direction.flip d) = d := by
  cases d <;> rfl

theorem dirPins_legal (d : Direction) : PinsLegal (dirPins d) := by
  cases d <;> decide

/-! The channels of a configuration. -/

theorem channels_one (cfg : Config) (h : cfg.nCh = 1) : channels cfg = [0] := by
  simp [channels, channelExists, h]

theorem channels_two (cfg : Config) (h : cfg.nCh = 2) : channels cfg = [0, 1] := by
  simp [channels, channelExists, h]

theorem mem_channels (cfg : Config) (c : Chan) : c ∈ channels cfg ↔ channelExists cfg c = true := by
  match c with
  | 0 => simp [channels]
  | 1 => simp [channels]

/-! The configuration check. -/

/-- What a configuration that passed the check satisfies (60_exceptions.md R101). -/
theorem configValid_iff (cfg : Config) :
    ConfigValid cfg ↔ (cfg.nCh = 1 ∨ cfg.nCh = 2) ∧ (cfg.res = 8 ∨ cfg.res = 10) ∧ (cfg.res = 10 → cfg.period ≤ 254) ∧
      (cfg.res = 8 → cfg.period ≤ 255) ∧ cfg.modeShift ≤ 6 ∧ ∀ c ∈ channels cfg, modeInit cfg c ≤ 255 := by
  simp only [ConfigValid, cfgError, List.any_eq_true, decide_eq_true_eq]
  constructor
  · intro h
    split_ifs at h with h1 h2 h3 h4 h5 h6
    refine ⟨by omega, by omega, fun _ => by omega, fun _ => by omega, by omega, fun c hc => ?_⟩
    by_contra hgt
    exact h6 ⟨c, hc, by omega⟩
  · rintro ⟨h1, h2, h3, h4, h5, h6⟩
    rw [if_neg (by tauto), if_neg (by tauto), if_neg (by omega), if_neg (by omega), if_neg (by omega), if_neg]
    rintro ⟨c, hc, hgt⟩
    exact absurd (h6 c hc) (by omega)

/-- A valid configuration has one channel or two. -/
theorem channels_of_valid (cfg : Config) (h : ConfigValid cfg) :
    (cfg.nCh = 1 ∧ channels cfg = [0]) ∨ (cfg.nCh = 2 ∧ channels cfg = [0, 1]) := by
  rcases ((configValid_iff cfg).1 h).1 with h1 | h2
  · exact .inl ⟨h1, channels_one cfg h1⟩
  · exact .inr ⟨h2, channels_two cfg h2⟩

/-- Channel 0 exists in every valid configuration. -/
theorem channelExists_zero (cfg : Config) (h : ConfigValid cfg) : channelExists cfg 0 = true := by
  rw [← mem_channels]
  rcases channels_of_valid cfg h with ⟨_, hc⟩ | ⟨_, hc⟩ <;> simp [hc]

/-! The duty sub-field. -/

theorem dsub_insert (k : Nat) (hk : k ≤ 6) (mode : Byte) (x : BitVec 2) :
    ((mode &&& ~~~(3#8 <<< k)) ||| (x.setWidth 8 <<< k)).extractLsb' k 2 = x := by
  interval_cases k <;> (apply BitVec.eq_of_getLsbD_eq; intro i hi; interval_cases i <;> simp)

theorem clear_insert (k : Nat) (hk : k ≤ 6) (mode : Byte) (x : BitVec 2) :
    ((mode &&& ~~~(3#8 <<< k)) ||| (x.setWidth 8 <<< k)) &&& ~~~(3#8 <<< k) = mode &&& ~~~(3#8 <<< k) := by
  interval_cases k <;> (apply BitVec.eq_of_getLsbD_eq; intro i hi; interval_cases i <;> simp)

@[simp] theorem clearDsub_clearDsub (cfg : Config) (mode : Byte) : clearDsub cfg (clearDsub cfg mode) = clearDsub cfg mode := by
  simp [clearDsub, BitVec.and_assoc]

theorem dsub_clearDsub (cfg : Config) (h : cfg.modeShift ≤ 6) (mode : Byte) : dsub cfg (clearDsub cfg mode) = 0 := by
  have := dsub_insert cfg.modeShift h mode 0
  simpa [dsub, clearDsub, dsubMask] using this

/-! The PWM value. -/

theorem pwmValue_ten (cfg : Config) (h : cfg.res = 10) (d : Nat) :
    pwmValue cfg d = some (d * 4 * (cfg.period + 1) / 100) := by
  simp [pwmValue, h]

theorem pwmValue_eight (cfg : Config) (h : cfg.res = 8) (d : Nat) : pwmValue cfg d = some (d * cfg.period / 100) := by
  simp [pwmValue, h]

/-- Every duty percentage's 10-bit value fits 10 bits (42_pwm_translator.md R79). -/
theorem ten_bit_value_le (d period : Nat) (hd : d ≤ 100) (hp : period ≤ 254) : d * 4 * (period + 1) / 100 ≤ 1020 := by
  have h1 : d * 4 * (period + 1) ≤ 100 * 4 * 255 := Nat.mul_le_mul (by omega) (by omega)
  omega

/-- Every duty percentage's 8-bit value fits 8 bits (42_pwm_translator.md R79). -/
theorem eight_bit_value_le (d period : Nat) (hd : d ≤ 100) (hp : period ≤ 255) : d * period / 100 ≤ 255 := by
  have h1 : d * period ≤ 100 * 255 := Nat.mul_le_mul hd hp
  omega

theorem byteOfFit_of_lt (n : Nat) (h : n < 256) : byteOfFit n = some (BitVec.ofNat 8 n) := by
  simp [byteOfFit, h]

/-- The two low bits shifted to the sub-field's place, as a byte. -/
theorem shifted_low_bits (p k : Nat) (hk : k ≤ 6) :
    byteOfFit ((p &&& 3) <<< k) = some ((BitVec.ofNat 2 p).setWidth 8 <<< k) := by
  have hp : p &&& 3 = p % 4 := Nat.and_two_pow_sub_one_eq_mod p 2
  have h4 : p % 4 < 4 := Nat.mod_lt _ (by omega)
  have hset : (BitVec.ofNat 2 p).setWidth 8 = BitVec.ofNat 8 (p % 4) := by
    apply BitVec.eq_of_toNat_eq
    simp
  rw [hp, hset]
  generalize p % 4 = q at h4
  interval_cases k <;> interval_cases q <;> rfl

/-- The compare value of a 10-bit block with a valid configuration (42_pwm_translator.md R75). -/
theorem newCmp_ten (cfg : Config) (h : cfg.res = 10) (hp : cfg.period ≤ 254) (d : Nat) (hd : d ≤ 100) :
    newCmp cfg d = some (BitVec.ofNat 8 ((d * 4 * (cfg.period + 1) / 100) >>> 2)) := by
  have := ten_bit_value_le d cfg.period hd hp
  simp only [newCmp, pwmValue_ten cfg h, h, if_true]
  exact byteOfFit_of_lt _ (by rw [Nat.shiftRight_eq_div_pow]; omega)

/-- The compare value of an 8-bit block with a valid configuration (42_pwm_translator.md R75). -/
theorem newCmp_eight (cfg : Config) (h : cfg.res = 8) (hp : cfg.period ≤ 255) (d : Nat) (hd : d ≤ 100) :
    newCmp cfg d = some (BitVec.ofNat 8 (d * cfg.period / 100)) := by
  have := eight_bit_value_le d cfg.period hd hp
  simp only [newCmp, pwmValue_eight cfg h, h]
  exact byteOfFit_of_lt _ (by simp; omega)

/-- The mode register a 10-bit block commits (42_pwm_translator.md R75, 20_memory.md R42). -/
theorem newMode_ten (cfg : Config) (h : cfg.res = 10) (hk : cfg.modeShift ≤ 6) (d : Nat) (mode : Byte) :
    newMode cfg d mode = some (clearDsub cfg mode |||
      ((BitVec.ofNat 2 (d * 4 * (cfg.period + 1) / 100)).setWidth 8 <<< cfg.modeShift)) := by
  simp only [newMode, h, if_true, pwmValue_ten cfg h, shifted_low_bits _ _ hk, Option.map_some]

/-- An 8-bit block keeps its mode register (42_pwm_translator.md R75). -/
theorem newMode_eight (cfg : Config) (h : cfg.res = 8) (d : Nat) (mode : Byte) : newMode cfg d mode = some mode := by
  simp [newMode, h]

/-- A valid configuration and a duty of at most 100 leave no value of `PWM_APPLY` unstated (42_pwm_translator.md R79). -/
theorem newPair_isSome (cfg : Config) (h : ConfigValid cfg) (d : Nat) (hd : d ≤ 100) (mode : Byte) :
    ∃ x y, newCmp cfg d = some x ∧ newMode cfg d mode = some y := by
  obtain ⟨-, hres, h10, h8, hk, -⟩ := (configValid_iff cfg).1 h
  rcases hres with hr | hr
  · exact ⟨_, _, newCmp_eight cfg hr (h8 hr) d hd, newMode_eight cfg hr d mode⟩
  · exact ⟨_, _, newCmp_ten cfg hr (h10 hr) d hd, newMode_ten cfg hr hk d mode⟩

end Sys2Proof.Machine
end

