-- ==== Sys2Proof/Laws/State.lean ====
section
/-! SUPPORT. One lemma per field per update of State, true by rfl, so that no later proof unfolds a record update; and the
registers of a channel by its index. -/

namespace Sys2Proof.Machine

/-! `State.clearFlags` -/

@[simp] theorem State.clearFlags_cfg (s : State) : (s.clearFlags).cfg = s.cfg := rfl
@[simp] theorem State.clearFlags_sr (s : State) : (s.clearFlags).sr = s.sr := rfl
@[simp] theorem State.clearFlags_duty (s : State) : (s.clearFlags).duty = s.duty := rfl
@[simp] theorem State.clearFlags_dir (s : State) : (s.clearFlags).dir = s.dir := rfl
@[simp] theorem State.clearFlags_ch0 (s : State) : (s.clearFlags).ch0 = s.ch0 := rfl
@[simp] theorem State.clearFlags_ch1 (s : State) : (s.clearFlags).ch1 = s.ch1 := rfl
@[simp] theorem State.clearFlags_tmrEn (s : State) : (s.clearFlags).tmrEn = s.tmrEn := rfl
@[simp] theorem State.clearFlags_fault (s : State) : (s.clearFlags).fault = s.fault := rfl
@[simp] theorem State.clearFlags_faultInfo (s : State) : (s.clearFlags).faultInfo = s.faultInfo := rfl
@[simp] theorem State.clearFlags_ev (s : State) : (s.clearFlags).ev = 0 := rfl
@[simp] theorem State.clearFlags_chg (s : State) : (s.clearFlags).chg = false := rfl
@[simp] theorem State.clearFlags_phase (s : State) : (s.clearFlags).phase = s.phase := rfl
@[simp] theorem State.clearFlags_trace (s : State) : (s.clearFlags).trace = s.trace := rfl
@[simp] theorem State.clearFlags_inbox (s : State) : (s.clearFlags).inbox = s.inbox := rfl
@[simp] theorem State.clearFlags_resetSeen (s : State) : (s.clearFlags).resetSeen = s.resetSeen := rfl
@[simp] theorem State.clearFlags_draws (s : State) : (s.clearFlags).draws = s.draws := rfl
@[simp] theorem State.clearFlags_chan (s : State) (c : Chan) : (s.clearFlags).chan c = s.chan c := rfl

/-! `State.setEv` -/

@[simp] theorem State.setEv_cfg (s : State) (b : Button) : (s.setEv b).cfg = s.cfg := rfl
@[simp] theorem State.setEv_sr (s : State) (b : Button) : (s.setEv b).sr = s.sr := rfl
@[simp] theorem State.setEv_duty (s : State) (b : Button) : (s.setEv b).duty = s.duty := rfl
@[simp] theorem State.setEv_dir (s : State) (b : Button) : (s.setEv b).dir = s.dir := rfl
@[simp] theorem State.setEv_ch0 (s : State) (b : Button) : (s.setEv b).ch0 = s.ch0 := rfl
@[simp] theorem State.setEv_ch1 (s : State) (b : Button) : (s.setEv b).ch1 = s.ch1 := rfl
@[simp] theorem State.setEv_tmrEn (s : State) (b : Button) : (s.setEv b).tmrEn = s.tmrEn := rfl
@[simp] theorem State.setEv_fault (s : State) (b : Button) : (s.setEv b).fault = s.fault := rfl
@[simp] theorem State.setEv_faultInfo (s : State) (b : Button) : (s.setEv b).faultInfo = s.faultInfo := rfl
@[simp] theorem State.setEv_ev (s : State) (b : Button) : (s.setEv b).ev = setButtonBit s.ev b true := rfl
@[simp] theorem State.setEv_chg (s : State) (b : Button) : (s.setEv b).chg = s.chg := rfl
@[simp] theorem State.setEv_phase (s : State) (b : Button) : (s.setEv b).phase = s.phase := rfl
@[simp] theorem State.setEv_trace (s : State) (b : Button) : (s.setEv b).trace = s.trace := rfl
@[simp] theorem State.setEv_inbox (s : State) (b : Button) : (s.setEv b).inbox = s.inbox := rfl
@[simp] theorem State.setEv_resetSeen (s : State) (b : Button) : (s.setEv b).resetSeen = s.resetSeen := rfl
@[simp] theorem State.setEv_draws (s : State) (b : Button) : (s.setEv b).draws = s.draws := rfl
@[simp] theorem State.setEv_chan (s : State) (b : Button) (c : Chan) : (s.setEv b).chan c = s.chan c := rfl

/-! `State.reportChange` -/

@[simp] theorem State.reportChange_cfg (s : State) : (s.reportChange).cfg = s.cfg := rfl
@[simp] theorem State.reportChange_sr (s : State) : (s.reportChange).sr = s.sr := rfl
@[simp] theorem State.reportChange_duty (s : State) : (s.reportChange).duty = s.duty := rfl
@[simp] theorem State.reportChange_dir (s : State) : (s.reportChange).dir = s.dir := rfl
@[simp] theorem State.reportChange_ch0 (s : State) : (s.reportChange).ch0 = s.ch0 := rfl
@[simp] theorem State.reportChange_ch1 (s : State) : (s.reportChange).ch1 = s.ch1 := rfl
@[simp] theorem State.reportChange_tmrEn (s : State) : (s.reportChange).tmrEn = s.tmrEn := rfl
@[simp] theorem State.reportChange_fault (s : State) : (s.reportChange).fault = s.fault := rfl
@[simp] theorem State.reportChange_faultInfo (s : State) : (s.reportChange).faultInfo = s.faultInfo := rfl
@[simp] theorem State.reportChange_ev (s : State) : (s.reportChange).ev = s.ev := rfl
@[simp] theorem State.reportChange_chg (s : State) : (s.reportChange).chg = true := rfl
@[simp] theorem State.reportChange_phase (s : State) : (s.reportChange).phase = s.phase := rfl
@[simp] theorem State.reportChange_trace (s : State) : (s.reportChange).trace = s.trace := rfl
@[simp] theorem State.reportChange_inbox (s : State) : (s.reportChange).inbox = s.inbox := rfl
@[simp] theorem State.reportChange_resetSeen (s : State) : (s.reportChange).resetSeen = s.resetSeen := rfl
@[simp] theorem State.reportChange_draws (s : State) : (s.reportChange).draws = s.draws := rfl
@[simp] theorem State.reportChange_chan (s : State) (c : Chan) : (s.reportChange).chan c = s.chan c := rfl

/-! `State.emit` -/

@[simp] theorem State.emit_cfg (s : State) (e : Event) : (s.emit e).cfg = s.cfg := rfl
@[simp] theorem State.emit_sr (s : State) (e : Event) : (s.emit e).sr = s.sr := rfl
@[simp] theorem State.emit_duty (s : State) (e : Event) : (s.emit e).duty = s.duty := rfl
@[simp] theorem State.emit_dir (s : State) (e : Event) : (s.emit e).dir = s.dir := rfl
@[simp] theorem State.emit_ch0 (s : State) (e : Event) : (s.emit e).ch0 = s.ch0 := rfl
@[simp] theorem State.emit_ch1 (s : State) (e : Event) : (s.emit e).ch1 = s.ch1 := rfl
@[simp] theorem State.emit_tmrEn (s : State) (e : Event) : (s.emit e).tmrEn = s.tmrEn := rfl
@[simp] theorem State.emit_fault (s : State) (e : Event) : (s.emit e).fault = s.fault := rfl
@[simp] theorem State.emit_faultInfo (s : State) (e : Event) : (s.emit e).faultInfo = s.faultInfo := rfl
@[simp] theorem State.emit_ev (s : State) (e : Event) : (s.emit e).ev = s.ev := rfl
@[simp] theorem State.emit_chg (s : State) (e : Event) : (s.emit e).chg = s.chg := rfl
@[simp] theorem State.emit_phase (s : State) (e : Event) : (s.emit e).phase = s.phase := rfl
@[simp] theorem State.emit_trace (s : State) (e : Event) : (s.emit e).trace = s.trace ++ [e] := rfl
@[simp] theorem State.emit_inbox (s : State) (e : Event) : (s.emit e).inbox = s.inbox := rfl
@[simp] theorem State.emit_resetSeen (s : State) (e : Event) : (s.emit e).resetSeen = s.resetSeen := rfl
@[simp] theorem State.emit_draws (s : State) (e : Event) : (s.emit e).draws = s.draws := rfl
@[simp] theorem State.emit_chan (s : State) (e : Event) (c : Chan) : (s.emit e).chan c = s.chan c := rfl

/-! `State.setPhase` -/

@[simp] theorem State.setPhase_cfg (s : State) (p : Phase) : (s.setPhase p).cfg = s.cfg := rfl
@[simp] theorem State.setPhase_sr (s : State) (p : Phase) : (s.setPhase p).sr = s.sr := rfl
@[simp] theorem State.setPhase_duty (s : State) (p : Phase) : (s.setPhase p).duty = s.duty := rfl
@[simp] theorem State.setPhase_dir (s : State) (p : Phase) : (s.setPhase p).dir = s.dir := rfl
@[simp] theorem State.setPhase_ch0 (s : State) (p : Phase) : (s.setPhase p).ch0 = s.ch0 := rfl
@[simp] theorem State.setPhase_ch1 (s : State) (p : Phase) : (s.setPhase p).ch1 = s.ch1 := rfl
@[simp] theorem State.setPhase_tmrEn (s : State) (p : Phase) : (s.setPhase p).tmrEn = s.tmrEn := rfl
@[simp] theorem State.setPhase_fault (s : State) (p : Phase) : (s.setPhase p).fault = s.fault := rfl
@[simp] theorem State.setPhase_faultInfo (s : State) (p : Phase) : (s.setPhase p).faultInfo = s.faultInfo := rfl
@[simp] theorem State.setPhase_ev (s : State) (p : Phase) : (s.setPhase p).ev = s.ev := rfl
@[simp] theorem State.setPhase_chg (s : State) (p : Phase) : (s.setPhase p).chg = s.chg := rfl
@[simp] theorem State.setPhase_phase (s : State) (p : Phase) : (s.setPhase p).phase = p := rfl
@[simp] theorem State.setPhase_trace (s : State) (p : Phase) : (s.setPhase p).trace = s.trace := rfl
@[simp] theorem State.setPhase_inbox (s : State) (p : Phase) : (s.setPhase p).inbox = s.inbox := rfl
@[simp] theorem State.setPhase_resetSeen (s : State) (p : Phase) : (s.setPhase p).resetSeen = s.resetSeen := rfl
@[simp] theorem State.setPhase_draws (s : State) (p : Phase) : (s.setPhase p).draws = s.draws := rfl
@[simp] theorem State.setPhase_chan (s : State) (p : Phase) (c : Chan) : (s.setPhase p).chan c = s.chan c := rfl

/-! `State.setSr` -/

@[simp] theorem State.setSr_cfg (s : State) (b : Button) (x : Bool) : (s.setSr b x).cfg = s.cfg := rfl
@[simp] theorem State.setSr_sr (s : State) (b : Button) (x : Bool) : (s.setSr b x).sr = setButtonBit s.sr b x := rfl
@[simp] theorem State.setSr_duty (s : State) (b : Button) (x : Bool) : (s.setSr b x).duty = s.duty := rfl
@[simp] theorem State.setSr_dir (s : State) (b : Button) (x : Bool) : (s.setSr b x).dir = s.dir := rfl
@[simp] theorem State.setSr_ch0 (s : State) (b : Button) (x : Bool) : (s.setSr b x).ch0 = s.ch0 := rfl
@[simp] theorem State.setSr_ch1 (s : State) (b : Button) (x : Bool) : (s.setSr b x).ch1 = s.ch1 := rfl
@[simp] theorem State.setSr_tmrEn (s : State) (b : Button) (x : Bool) : (s.setSr b x).tmrEn = s.tmrEn := rfl
@[simp] theorem State.setSr_fault (s : State) (b : Button) (x : Bool) : (s.setSr b x).fault = s.fault := rfl
@[simp] theorem State.setSr_faultInfo (s : State) (b : Button) (x : Bool) : (s.setSr b x).faultInfo = s.faultInfo := rfl
@[simp] theorem State.setSr_ev (s : State) (b : Button) (x : Bool) : (s.setSr b x).ev = s.ev := rfl
@[simp] theorem State.setSr_chg (s : State) (b : Button) (x : Bool) : (s.setSr b x).chg = s.chg := rfl
@[simp] theorem State.setSr_phase (s : State) (b : Button) (x : Bool) : (s.setSr b x).phase = s.phase := rfl
@[simp] theorem State.setSr_trace (s : State) (b : Button) (x : Bool) : (s.setSr b x).trace = s.trace := rfl
@[simp] theorem State.setSr_inbox (s : State) (b : Button) (x : Bool) : (s.setSr b x).inbox = s.inbox := rfl
@[simp] theorem State.setSr_resetSeen (s : State) (b : Button) (x : Bool) : (s.setSr b x).resetSeen = s.resetSeen := rfl
@[simp] theorem State.setSr_draws (s : State) (b : Button) (x : Bool) : (s.setSr b x).draws = s.draws := rfl
@[simp] theorem State.setSr_chan (s : State) (b : Button) (x : Bool) (c : Chan) : (s.setSr b x).chan c = s.chan c := rfl

/-! `State.setDuty` -/

@[simp] theorem State.setDuty_cfg (s : State) (n : Nat) : (s.setDuty n).cfg = s.cfg := rfl
@[simp] theorem State.setDuty_sr (s : State) (n : Nat) : (s.setDuty n).sr = s.sr := rfl
@[simp] theorem State.setDuty_duty (s : State) (n : Nat) : (s.setDuty n).duty = BitVec.ofNat 7 n := rfl
@[simp] theorem State.setDuty_dir (s : State) (n : Nat) : (s.setDuty n).dir = s.dir := rfl
@[simp] theorem State.setDuty_ch0 (s : State) (n : Nat) : (s.setDuty n).ch0 = s.ch0 := rfl
@[simp] theorem State.setDuty_ch1 (s : State) (n : Nat) : (s.setDuty n).ch1 = s.ch1 := rfl
@[simp] theorem State.setDuty_tmrEn (s : State) (n : Nat) : (s.setDuty n).tmrEn = s.tmrEn := rfl
@[simp] theorem State.setDuty_fault (s : State) (n : Nat) : (s.setDuty n).fault = s.fault := rfl
@[simp] theorem State.setDuty_faultInfo (s : State) (n : Nat) : (s.setDuty n).faultInfo = s.faultInfo := rfl
@[simp] theorem State.setDuty_ev (s : State) (n : Nat) : (s.setDuty n).ev = s.ev := rfl
@[simp] theorem State.setDuty_chg (s : State) (n : Nat) : (s.setDuty n).chg = s.chg := rfl
@[simp] theorem State.setDuty_phase (s : State) (n : Nat) : (s.setDuty n).phase = s.phase := rfl
@[simp] theorem State.setDuty_trace (s : State) (n : Nat) : (s.setDuty n).trace = s.trace := rfl
@[simp] theorem State.setDuty_inbox (s : State) (n : Nat) : (s.setDuty n).inbox = s.inbox := rfl
@[simp] theorem State.setDuty_resetSeen (s : State) (n : Nat) : (s.setDuty n).resetSeen = s.resetSeen := rfl
@[simp] theorem State.setDuty_draws (s : State) (n : Nat) : (s.setDuty n).draws = s.draws := rfl
@[simp] theorem State.setDuty_chan (s : State) (n : Nat) (c : Chan) : (s.setDuty n).chan c = s.chan c := rfl

/-! `State.setDir` -/

@[simp] theorem State.setDir_cfg (s : State) (d : Direction) : (s.setDir d).cfg = s.cfg := rfl
@[simp] theorem State.setDir_sr (s : State) (d : Direction) : (s.setDir d).sr = s.sr := rfl
@[simp] theorem State.setDir_duty (s : State) (d : Direction) : (s.setDir d).duty = s.duty := rfl
@[simp] theorem State.setDir_dir (s : State) (d : Direction) : (s.setDir d).dir = d := rfl
@[simp] theorem State.setDir_ch0 (s : State) (d : Direction) : (s.setDir d).ch0 = s.ch0 := rfl
@[simp] theorem State.setDir_ch1 (s : State) (d : Direction) : (s.setDir d).ch1 = s.ch1 := rfl
@[simp] theorem State.setDir_tmrEn (s : State) (d : Direction) : (s.setDir d).tmrEn = s.tmrEn := rfl
@[simp] theorem State.setDir_fault (s : State) (d : Direction) : (s.setDir d).fault = s.fault := rfl
@[simp] theorem State.setDir_faultInfo (s : State) (d : Direction) : (s.setDir d).faultInfo = s.faultInfo := rfl
@[simp] theorem State.setDir_ev (s : State) (d : Direction) : (s.setDir d).ev = s.ev := rfl
@[simp] theorem State.setDir_chg (s : State) (d : Direction) : (s.setDir d).chg = s.chg := rfl
@[simp] theorem State.setDir_phase (s : State) (d : Direction) : (s.setDir d).phase = s.phase := rfl
@[simp] theorem State.setDir_trace (s : State) (d : Direction) : (s.setDir d).trace = s.trace := rfl
@[simp] theorem State.setDir_inbox (s : State) (d : Direction) : (s.setDir d).inbox = s.inbox := rfl
@[simp] theorem State.setDir_resetSeen (s : State) (d : Direction) : (s.setDir d).resetSeen = s.resetSeen := rfl
@[simp] theorem State.setDir_draws (s : State) (d : Direction) : (s.setDir d).draws = s.draws := rfl
@[simp] theorem State.setDir_chan (s : State) (d : Direction) (c : Chan) : (s.setDir d).chan c = s.chan c := rfl

/-! `State.setTmrEn` -/

@[simp] theorem State.setTmrEn_cfg (s : State) (x : Bool) : (s.setTmrEn x).cfg = s.cfg := rfl
@[simp] theorem State.setTmrEn_sr (s : State) (x : Bool) : (s.setTmrEn x).sr = s.sr := rfl
@[simp] theorem State.setTmrEn_duty (s : State) (x : Bool) : (s.setTmrEn x).duty = s.duty := rfl
@[simp] theorem State.setTmrEn_dir (s : State) (x : Bool) : (s.setTmrEn x).dir = s.dir := rfl
@[simp] theorem State.setTmrEn_ch0 (s : State) (x : Bool) : (s.setTmrEn x).ch0 = s.ch0 := rfl
@[simp] theorem State.setTmrEn_ch1 (s : State) (x : Bool) : (s.setTmrEn x).ch1 = s.ch1 := rfl
@[simp] theorem State.setTmrEn_tmrEn (s : State) (x : Bool) : (s.setTmrEn x).tmrEn = x := rfl
@[simp] theorem State.setTmrEn_fault (s : State) (x : Bool) : (s.setTmrEn x).fault = s.fault := rfl
@[simp] theorem State.setTmrEn_faultInfo (s : State) (x : Bool) : (s.setTmrEn x).faultInfo = s.faultInfo := rfl
@[simp] theorem State.setTmrEn_ev (s : State) (x : Bool) : (s.setTmrEn x).ev = s.ev := rfl
@[simp] theorem State.setTmrEn_chg (s : State) (x : Bool) : (s.setTmrEn x).chg = s.chg := rfl
@[simp] theorem State.setTmrEn_phase (s : State) (x : Bool) : (s.setTmrEn x).phase = s.phase := rfl
@[simp] theorem State.setTmrEn_trace (s : State) (x : Bool) : (s.setTmrEn x).trace = s.trace := rfl
@[simp] theorem State.setTmrEn_inbox (s : State) (x : Bool) : (s.setTmrEn x).inbox = s.inbox := rfl
@[simp] theorem State.setTmrEn_resetSeen (s : State) (x : Bool) : (s.setTmrEn x).resetSeen = s.resetSeen := rfl
@[simp] theorem State.setTmrEn_draws (s : State) (x : Bool) : (s.setTmrEn x).draws = s.draws := rfl
@[simp] theorem State.setTmrEn_chan (s : State) (x : Bool) (c : Chan) : (s.setTmrEn x).chan c = s.chan c := rfl

/-! `State.setFault` -/

@[simp] theorem State.setFault_cfg (s : State) (code : BitVec 2) (info : Option CfgError) : (s.setFault code info).cfg = s.cfg := rfl
@[simp] theorem State.setFault_sr (s : State) (code : BitVec 2) (info : Option CfgError) : (s.setFault code info).sr = s.sr := rfl
@[simp] theorem State.setFault_duty (s : State) (code : BitVec 2) (info : Option CfgError) : (s.setFault code info).duty = s.duty := rfl
@[simp] theorem State.setFault_dir (s : State) (code : BitVec 2) (info : Option CfgError) : (s.setFault code info).dir = s.dir := rfl
@[simp] theorem State.setFault_ch0 (s : State) (code : BitVec 2) (info : Option CfgError) : (s.setFault code info).ch0 = s.ch0 := rfl
@[simp] theorem State.setFault_ch1 (s : State) (code : BitVec 2) (info : Option CfgError) : (s.setFault code info).ch1 = s.ch1 := rfl
@[simp] theorem State.setFault_tmrEn (s : State) (code : BitVec 2) (info : Option CfgError) : (s.setFault code info).tmrEn = s.tmrEn := rfl
@[simp] theorem State.setFault_fault (s : State) (code : BitVec 2) (info : Option CfgError) : (s.setFault code info).fault = code := rfl
@[simp] theorem State.setFault_faultInfo (s : State) (code : BitVec 2) (info : Option CfgError) : (s.setFault code info).faultInfo = info := rfl
@[simp] theorem State.setFault_ev (s : State) (code : BitVec 2) (info : Option CfgError) : (s.setFault code info).ev = s.ev := rfl
@[simp] theorem State.setFault_chg (s : State) (code : BitVec 2) (info : Option CfgError) : (s.setFault code info).chg = s.chg := rfl
@[simp] theorem State.setFault_phase (s : State) (code : BitVec 2) (info : Option CfgError) : (s.setFault code info).phase = s.phase := rfl
@[simp] theorem State.setFault_trace (s : State) (code : BitVec 2) (info : Option CfgError) : (s.setFault code info).trace = s.trace := rfl
@[simp] theorem State.setFault_inbox (s : State) (code : BitVec 2) (info : Option CfgError) : (s.setFault code info).inbox = s.inbox := rfl
@[simp] theorem State.setFault_resetSeen (s : State) (code : BitVec 2) (info : Option CfgError) : (s.setFault code info).resetSeen = s.resetSeen := rfl
@[simp] theorem State.setFault_draws (s : State) (code : BitVec 2) (info : Option CfgError) : (s.setFault code info).draws = s.draws := rfl
@[simp] theorem State.setFault_chan (s : State) (code : BitVec 2) (info : Option CfgError) (c : Chan) : (s.setFault code info).chan c = s.chan c := rfl

/-! `State.markReset` -/

@[simp] theorem State.markReset_cfg (s : State) : (s.markReset).cfg = s.cfg := rfl
@[simp] theorem State.markReset_sr (s : State) : (s.markReset).sr = s.sr := rfl
@[simp] theorem State.markReset_duty (s : State) : (s.markReset).duty = s.duty := rfl
@[simp] theorem State.markReset_dir (s : State) : (s.markReset).dir = s.dir := rfl
@[simp] theorem State.markReset_ch0 (s : State) : (s.markReset).ch0 = s.ch0 := rfl
@[simp] theorem State.markReset_ch1 (s : State) : (s.markReset).ch1 = s.ch1 := rfl
@[simp] theorem State.markReset_tmrEn (s : State) : (s.markReset).tmrEn = s.tmrEn := rfl
@[simp] theorem State.markReset_fault (s : State) : (s.markReset).fault = s.fault := rfl
@[simp] theorem State.markReset_faultInfo (s : State) : (s.markReset).faultInfo = s.faultInfo := rfl
@[simp] theorem State.markReset_ev (s : State) : (s.markReset).ev = s.ev := rfl
@[simp] theorem State.markReset_chg (s : State) : (s.markReset).chg = s.chg := rfl
@[simp] theorem State.markReset_phase (s : State) : (s.markReset).phase = s.phase := rfl
@[simp] theorem State.markReset_trace (s : State) : (s.markReset).trace = s.trace := rfl
@[simp] theorem State.markReset_inbox (s : State) : (s.markReset).inbox = s.inbox := rfl
@[simp] theorem State.markReset_resetSeen (s : State) : (s.markReset).resetSeen = true := rfl
@[simp] theorem State.markReset_draws (s : State) : (s.markReset).draws = s.draws := rfl
@[simp] theorem State.markReset_chan (s : State) (c : Chan) : (s.markReset).chan c = s.chan c := rfl

/-! `State.countDraw` -/

@[simp] theorem State.countDraw_cfg (s : State) : (s.countDraw).cfg = s.cfg := rfl
@[simp] theorem State.countDraw_sr (s : State) : (s.countDraw).sr = s.sr := rfl
@[simp] theorem State.countDraw_duty (s : State) : (s.countDraw).duty = s.duty := rfl
@[simp] theorem State.countDraw_dir (s : State) : (s.countDraw).dir = s.dir := rfl
@[simp] theorem State.countDraw_ch0 (s : State) : (s.countDraw).ch0 = s.ch0 := rfl
@[simp] theorem State.countDraw_ch1 (s : State) : (s.countDraw).ch1 = s.ch1 := rfl
@[simp] theorem State.countDraw_tmrEn (s : State) : (s.countDraw).tmrEn = s.tmrEn := rfl
@[simp] theorem State.countDraw_fault (s : State) : (s.countDraw).fault = s.fault := rfl
@[simp] theorem State.countDraw_faultInfo (s : State) : (s.countDraw).faultInfo = s.faultInfo := rfl
@[simp] theorem State.countDraw_ev (s : State) : (s.countDraw).ev = s.ev := rfl
@[simp] theorem State.countDraw_chg (s : State) : (s.countDraw).chg = s.chg := rfl
@[simp] theorem State.countDraw_phase (s : State) : (s.countDraw).phase = s.phase := rfl
@[simp] theorem State.countDraw_trace (s : State) : (s.countDraw).trace = s.trace := rfl
@[simp] theorem State.countDraw_inbox (s : State) : (s.countDraw).inbox = s.inbox := rfl
@[simp] theorem State.countDraw_resetSeen (s : State) : (s.countDraw).resetSeen = s.resetSeen := rfl
@[simp] theorem State.countDraw_draws (s : State) : (s.countDraw).draws = s.draws + 1 := rfl
@[simp] theorem State.countDraw_chan (s : State) (c : Chan) : (s.countDraw).chan c = s.chan c := rfl

/-! `State.beginStep` -/

@[simp] theorem State.forgetInternals_cfg (s : State) : (s.forgetInternals).cfg = s.cfg := rfl
@[simp] theorem State.forgetInternals_ch0 (s : State) : (s.forgetInternals).ch0 = s.ch0 := rfl
@[simp] theorem State.forgetInternals_ch1 (s : State) : (s.forgetInternals).ch1 = s.ch1 := rfl
@[simp] theorem State.forgetInternals_tmrEn (s : State) : (s.forgetInternals).tmrEn = s.tmrEn := rfl
@[simp] theorem State.forgetInternals_fault (s : State) : (s.forgetInternals).fault = s.fault := rfl
@[simp] theorem State.forgetInternals_faultInfo (s : State) : (s.forgetInternals).faultInfo = s.faultInfo := rfl
@[simp] theorem State.forgetInternals_trace (s : State) : (s.forgetInternals).trace = s.trace := rfl
@[simp] theorem State.forgetInternals_inbox (s : State) : (s.forgetInternals).inbox = s.inbox := rfl
@[simp] theorem State.forgetInternals_resetSeen (s : State) : (s.forgetInternals).resetSeen = s.resetSeen := rfl
@[simp] theorem State.forgetInternals_draws (s : State) : (s.forgetInternals).draws = s.draws + 1 := rfl
@[simp] theorem State.forgetInternals_sr (s : State) :
    (s.forgetInternals).sr = Config.freeSr s.draws := rfl
@[simp] theorem State.forgetInternals_duty (s : State) :
    (s.forgetInternals).duty = Config.freeDuty s.draws := rfl
@[simp] theorem State.forgetInternals_dir (s : State) :
    (s.forgetInternals).dir = Config.freeDir s.draws := rfl
@[simp] theorem State.forgetInternals_ev (s : State) :
    (s.forgetInternals).ev = Config.freeEv s.draws := rfl
@[simp] theorem State.forgetInternals_chg (s : State) :
    (s.forgetInternals).chg = Config.freeChg s.draws := rfl
@[simp] theorem State.forgetInternals_phase (s : State) :
    (s.forgetInternals).phase = Config.freePhase s.draws := rfl

@[simp] theorem State.beginStep_cfg (s : State) (rest : List Request) : (s.beginStep rest).cfg = s.cfg := rfl
@[simp] theorem State.beginStep_sr (s : State) (rest : List Request) : (s.beginStep rest).sr = s.sr := rfl
@[simp] theorem State.beginStep_duty (s : State) (rest : List Request) : (s.beginStep rest).duty = s.duty := rfl
@[simp] theorem State.beginStep_dir (s : State) (rest : List Request) : (s.beginStep rest).dir = s.dir := rfl
@[simp] theorem State.beginStep_ch0 (s : State) (rest : List Request) : (s.beginStep rest).ch0 = s.ch0 := rfl
@[simp] theorem State.beginStep_ch1 (s : State) (rest : List Request) : (s.beginStep rest).ch1 = s.ch1 := rfl
@[simp] theorem State.beginStep_tmrEn (s : State) (rest : List Request) : (s.beginStep rest).tmrEn = s.tmrEn := rfl
@[simp] theorem State.beginStep_fault (s : State) (rest : List Request) : (s.beginStep rest).fault = s.fault := rfl
@[simp] theorem State.beginStep_faultInfo (s : State) (rest : List Request) : (s.beginStep rest).faultInfo = s.faultInfo := rfl
@[simp] theorem State.beginStep_ev (s : State) (rest : List Request) : (s.beginStep rest).ev = s.ev := rfl
@[simp] theorem State.beginStep_chg (s : State) (rest : List Request) : (s.beginStep rest).chg = s.chg := rfl
@[simp] theorem State.beginStep_phase (s : State) (rest : List Request) : (s.beginStep rest).phase = s.phase := rfl
@[simp] theorem State.beginStep_trace (s : State) (rest : List Request) : (s.beginStep rest).trace = [] := rfl
@[simp] theorem State.beginStep_inbox (s : State) (rest : List Request) : (s.beginStep rest).inbox = rest := rfl
@[simp] theorem State.beginStep_resetSeen (s : State) (rest : List Request) : (s.beginStep rest).resetSeen = s.resetSeen := rfl
@[simp] theorem State.beginStep_draws (s : State) (rest : List Request) : (s.beginStep rest).draws = s.draws := rfl
@[simp] theorem State.beginStep_chan (s : State) (rest : List Request) (c : Chan) : (s.beginStep rest).chan c = s.chan c := rfl

/-! `State.present` -/

@[simp] theorem State.present_cfg (s : State) (w : Byte) : (s.present w).cfg = s.cfg := rfl
@[simp] theorem State.present_sr (s : State) (w : Byte) : (s.present w).sr = s.sr := rfl
@[simp] theorem State.present_duty (s : State) (w : Byte) : (s.present w).duty = s.duty := rfl
@[simp] theorem State.present_dir (s : State) (w : Byte) : (s.present w).dir = s.dir := rfl
@[simp] theorem State.present_ch0 (s : State) (w : Byte) : (s.present w).ch0 = s.ch0 := rfl
@[simp] theorem State.present_ch1 (s : State) (w : Byte) : (s.present w).ch1 = s.ch1 := rfl
@[simp] theorem State.present_tmrEn (s : State) (w : Byte) : (s.present w).tmrEn = s.tmrEn := rfl
@[simp] theorem State.present_fault (s : State) (w : Byte) : (s.present w).fault = s.fault := rfl
@[simp] theorem State.present_faultInfo (s : State) (w : Byte) : (s.present w).faultInfo = s.faultInfo := rfl
@[simp] theorem State.present_ev (s : State) (w : Byte) : (s.present w).ev = s.ev := rfl
@[simp] theorem State.present_chg (s : State) (w : Byte) : (s.present w).chg = s.chg := rfl
@[simp] theorem State.present_phase (s : State) (w : Byte) : (s.present w).phase = s.phase := rfl
@[simp] theorem State.present_trace (s : State) (w : Byte) : (s.present w).trace = s.trace := rfl
@[simp] theorem State.present_inbox (s : State) (w : Byte) : (s.present w).inbox = { issuer := issuerOf w, word := w } :: s.inbox := rfl
@[simp] theorem State.present_resetSeen (s : State) (w : Byte) : (s.present w).resetSeen = s.resetSeen := rfl
@[simp] theorem State.present_draws (s : State) (w : Byte) : (s.present w).draws = s.draws := rfl
@[simp] theorem State.present_chan (s : State) (w : Byte) (c : Chan) : (s.present w).chan c = s.chan c := rfl

/-! `State.setChan` -/

@[simp] theorem State.setChan_cfg (s : State) (c : Chan) (ch : Channel) : (s.setChan c ch).cfg = s.cfg :=
  match c with
  | 0 => rfl
  | 1 => rfl
@[simp] theorem State.setChan_sr (s : State) (c : Chan) (ch : Channel) : (s.setChan c ch).sr = s.sr :=
  match c with
  | 0 => rfl
  | 1 => rfl
@[simp] theorem State.setChan_duty (s : State) (c : Chan) (ch : Channel) : (s.setChan c ch).duty = s.duty :=
  match c with
  | 0 => rfl
  | 1 => rfl
@[simp] theorem State.setChan_dir (s : State) (c : Chan) (ch : Channel) : (s.setChan c ch).dir = s.dir :=
  match c with
  | 0 => rfl
  | 1 => rfl
@[simp] theorem State.setChan_tmrEn (s : State) (c : Chan) (ch : Channel) : (s.setChan c ch).tmrEn = s.tmrEn :=
  match c with
  | 0 => rfl
  | 1 => rfl
@[simp] theorem State.setChan_fault (s : State) (c : Chan) (ch : Channel) : (s.setChan c ch).fault = s.fault :=
  match c with
  | 0 => rfl
  | 1 => rfl
@[simp] theorem State.setChan_faultInfo (s : State) (c : Chan) (ch : Channel) : (s.setChan c ch).faultInfo = s.faultInfo :=
  match c with
  | 0 => rfl
  | 1 => rfl
@[simp] theorem State.setChan_ev (s : State) (c : Chan) (ch : Channel) : (s.setChan c ch).ev = s.ev :=
  match c with
  | 0 => rfl
  | 1 => rfl
@[simp] theorem State.setChan_chg (s : State) (c : Chan) (ch : Channel) : (s.setChan c ch).chg = s.chg :=
  match c with
  | 0 => rfl
  | 1 => rfl
@[simp] theorem State.setChan_phase (s : State) (c : Chan) (ch : Channel) : (s.setChan c ch).phase = s.phase :=
  match c with
  | 0 => rfl
  | 1 => rfl
@[simp] theorem State.setChan_trace (s : State) (c : Chan) (ch : Channel) : (s.setChan c ch).trace = s.trace :=
  match c with
  | 0 => rfl
  | 1 => rfl
@[simp] theorem State.setChan_inbox (s : State) (c : Chan) (ch : Channel) : (s.setChan c ch).inbox = s.inbox :=
  match c with
  | 0 => rfl
  | 1 => rfl
@[simp] theorem State.setChan_resetSeen (s : State) (c : Chan) (ch : Channel) : (s.setChan c ch).resetSeen = s.resetSeen :=
  match c with
  | 0 => rfl
  | 1 => rfl
@[simp] theorem State.setChan_draws (s : State) (c : Chan) (ch : Channel) : (s.setChan c ch).draws = s.draws :=
  match c with
  | 0 => rfl
  | 1 => rfl

@[simp] theorem State.setChan_zero_ch0 (s : State) (ch : Channel) : (s.setChan 0 ch).ch0 = ch := rfl
@[simp] theorem State.setChan_zero_ch1 (s : State) (ch : Channel) : (s.setChan 0 ch).ch1 = s.ch1 := rfl
@[simp] theorem State.setChan_one_ch0 (s : State) (ch : Channel) : (s.setChan 1 ch).ch0 = s.ch0 := rfl
@[simp] theorem State.setChan_one_ch1 (s : State) (ch : Channel) : (s.setChan 1 ch).ch1 = ch := rfl
@[simp] theorem State.chan_zero (s : State) : s.chan 0 = s.ch0 := rfl
@[simp] theorem State.chan_one (s : State) : s.chan 1 = s.ch1 := rfl

/-- Reading a channel after a write of a channel. -/
theorem State.chan_setChan (s : State) (c d : Chan) (ch : Channel) :
    (s.setChan c ch).chan d = if d = c then ch else s.chan d :=
  match c, d with
  | 0, 0 => rfl
  | 0, 1 => rfl
  | 1, 0 => rfl
  | 1, 1 => rfl

@[simp] theorem State.chan_setChan_same (s : State) (c : Chan) (ch : Channel) : (s.setChan c ch).chan c = ch := by
  rw [State.chan_setChan, if_pos rfl]

/-- Two states are equal when every field is. -/
theorem State.eq_of_fields (s t : State) (hcfg : s.cfg = t.cfg) (hsr : s.sr = t.sr) (hduty : s.duty = t.duty)
    (hdir : s.dir = t.dir) (h0 : s.ch0 = t.ch0) (h1 : s.ch1 = t.ch1) (htmr : s.tmrEn = t.tmrEn)
    (hfault : s.fault = t.fault) (hinfo : s.faultInfo = t.faultInfo) (hev : s.ev = t.ev) (hchg : s.chg = t.chg)
    (hphase : s.phase = t.phase) (htrace : s.trace = t.trace) (hinbox : s.inbox = t.inbox)
    (hseen : s.resetSeen = t.resetSeen) (hdraws : s.draws = t.draws) : s = t := by
  cases s; cases t; simp_all

end Sys2Proof.Machine
end

