-- ==== Sys2Proof/Laws/Ops.lean ====
section
/-! SUPPORT. One lemma per shared operation that says all it can do, for later proofs to cite instead of unfolding it. -/

namespace Sys2Proof.Machine

/-! The micro-operations. -/

/-- `DEB_POLL`: `SR[b]` becomes the level; a pressed sample of an armed button sets `EV[b]` and settles. -/
theorem pollButton_eq (b : Button) (l : Bool) (s : State) :
    pollButton b l s = { s with
      sr := setButtonBit s.sr b l
      ev := if !l && s.srBit b then setButtonBit s.ev b true else s.ev
      trace := s.trace ++ (if !l && s.srBit b then [.settle b] else []) } := by
  have hheld (h : s.srBit b = false) : setButtonBit s.sr b false = s.sr := by
    rw [← h]
    exact setButtonBit_same s.sr b
  cases l <;> cases h : s.srBit b <;>
    simp [pollButton, h, State.setSr, State.setEv, State.emit, hheld]

/-- What `DEB_POLL` never writes (10_state.md R30). -/
theorem pollButton_frame (b : Button) (l : Bool) (s : State) :
    (pollButton b l s).cfg = s.cfg ∧ (pollButton b l s).duty = s.duty ∧ (pollButton b l s).dir = s.dir ∧
      (pollButton b l s).ch0 = s.ch0 ∧ (pollButton b l s).ch1 = s.ch1 ∧ (pollButton b l s).tmrEn = s.tmrEn ∧
      (pollButton b l s).fault = s.fault ∧ (pollButton b l s).faultInfo = s.faultInfo ∧
      (pollButton b l s).chg = s.chg ∧ (pollButton b l s).phase = s.phase ∧ (pollButton b l s).inbox = s.inbox ∧
      (pollButton b l s).resetSeen = s.resetSeen ∧ (pollButton b l s).draws = s.draws := by
  simp [pollButton_eq]

theorem pollButton_srBit (b d : Button) (l : Bool) (s : State) :
    (pollButton b l s).srBit d = if d = b then l else s.srBit d := by
  simp [pollButton_eq, State.srBit, buttonBit_setButtonBit]

theorem pollButton_evBit (b d : Button) (l : Bool) (s : State) :
    buttonBit (pollButton b l s).ev d = (buttonBit s.ev d || (decide (d = b) && (!l && s.srBit b))) := by
  simp only [pollButton_eq]
  cases !l && s.srBit b <;> by_cases h : d = b <;> simp [buttonBit_setButtonBit, h]

theorem pollButton_trace (b : Button) (l : Bool) (s : State) :
    (pollButton b l s).trace = s.trace ++ (if !l && s.srBit b then [.settle b] else []) := by
  simp [pollButton_eq]

@[simp] theorem setPhase_srBit (s : State) (p : Phase) (b : Button) : (s.setPhase p).srBit b = s.srBit b := rfl
@[simp] theorem clearFlags_srBit (s : State) (b : Button) : s.clearFlags.srBit b = s.srBit b := rfl

theorem increaseDuty_eq (s : State) :
    increaseDuty s =
      if s.duty.toNat < 100 then { s with duty := BitVec.ofNat 7 (s.duty.toNat + 10), chg := true } else s := rfl

theorem decreaseDuty_eq (s : State) :
    decreaseDuty s =
      if 0 < s.duty.toNat then { s with duty := BitVec.ofNat 7 (s.duty.toNat - 10), chg := true } else s := rfl

theorem toggleDir_eq (s : State) : toggleDir s = { s with dir := Direction.flip s.dir, chg := true } := rfl

theorem startTimer_eq (s : State) : startTimer s = { s with tmrEn := true, trace := s.trace ++ [.tmrw] } := rfl

theorem requestRender_eq (s : State) :
    requestRender s = { s with trace := s.trace ++ [.render s.duty s.dir] } := rfl

theorem commitPair_eq (c : Chan) (cmp mode : Byte) (s : State) :
    commitPair c cmp mode s =
      { s.setChan c { s.chan c with cmp := cmp, mode := mode } with trace := s.trace ++ [.pwmw c cmp mode] } := by
  match c with
  | 0 => rfl
  | 1 => rfl

theorem initPwm_eq (c : Chan) (s : State) :
    initPwm c s = commitPair c 0 (clearDsub s.cfg (BitVec.ofNat 8 (modeInit s.cfg c))) s := rfl

theorem applyDir_eq (c : Chan) (s : State) :
    applyDir c s = { s.setChan c { s.chan c with pins := dirPins s.dir } with
      trace := s.trace ++ [.dirw c (dirPins s.dir)] } := by
  match c with
  | 0 => rfl
  | 1 => rfl

/-- `PWM_APPLY` where the spec states both values. -/
theorem applyPwm_of_some (c : Chan) (s : State) (x y : Byte) (hx : newCmp s.cfg s.duty.toNat = some x)
    (hy : newMode s.cfg s.duty.toNat (s.chan c).mode = some y) : applyPwm c s = commitPair c x y s := by
  simp [applyPwm, hx, hy]

/-- `PWM_APPLY` always commits some pair; only the draw count may move besides. -/
theorem applyPwm_cases (c : Chan) (s : State) :
    ∃ x y k, applyPwm c s = { commitPair c x y s with draws := k } := by
  refine ⟨(newCmp s.cfg s.duty.toNat).getD (Config.freeCmp s.draws c),
    (newMode s.cfg s.duty.toNat (s.chan c).mode).getD (Config.freeMode s.draws c), ?_⟩
  simp only [applyPwm]
  split
  · exact ⟨_, rfl⟩
  · exact ⟨_, rfl⟩

/-! The configuration fault. -/

/-- A channel the block has not is not forgotten, and no other field of a state is touched. -/
theorem forgetChan_frame (s : State) (c : Chan) : s.forgetChan c = { s with
    ch0 := (s.forgetChan c).ch0, ch1 := (s.forgetChan c).ch1 } ∧
      (channelExists s.cfg c = false → s.forgetChan c = s) := by
  match c with
  | 0 => cases h : channelExists s.cfg 0 <;> simp [State.forgetChan, State.setChan, h]
  | 1 => cases h : channelExists s.cfg 1 <;> simp [State.forgetChan, State.setChan, h]

/-- Forgetting the outputs writes the output registers of the channels the block has, the timer's enable and the count of
draws, and nothing else. -/
theorem forgetOutputs_frame (s : State) : s.forgetOutputs = { s with
    ch0 := s.forgetOutputs.ch0, ch1 := s.forgetOutputs.ch1, tmrEn := Config.freeTmrEn s.draws, draws := s.draws + 1 } ∧
      ∀ c, channelExists s.cfg c = false → s.forgetOutputs.chan c = s.chan c := by
  cases h0 : channelExists s.cfg 0 <;> cases h1 : channelExists s.cfg 1 <;>
    simp [State.forgetOutputs, State.forgetChan, State.setChan, State.countDraw, State.chan, h0, h1]

/-- What taking the configuration fault writes: `FAULT` with its info, its event, the output registers of the channels the
block has, `TMR_EN` and the count of draws; nothing else. -/
theorem takeConfigFault_spec (info : CfgError) (s : State) :
    takeConfigFault info s = { s with
      ch0 := (takeConfigFault info s).ch0
      ch1 := (takeConfigFault info s).ch1
      tmrEn := Config.freeTmrEn s.draws
      fault := faultConfig
      faultInfo := some info
      trace := s.trace ++ [.faultw faultConfig]
      draws := s.draws + 1 } ∧
      ∀ c, channelExists s.cfg c = false → (takeConfigFault info s).chan c = s.chan c := by
  obtain ⟨hframe, habsent⟩ := forgetOutputs_frame s
  refine ⟨?_, habsent⟩
  simp only [takeConfigFault, State.setFault, State.emit]
  rw [hframe]

@[simp] theorem takeConfigFault_fault (info : CfgError) (s : State) : (takeConfigFault info s).fault = faultConfig := rfl
@[simp] theorem takeConfigFault_faultInfo (info : CfgError) (s : State) :
    (takeConfigFault info s).faultInfo = some info := rfl
@[simp] theorem takeConfigFault_cfg (info : CfgError) (s : State) : (takeConfigFault info s).cfg = s.cfg := by
  rw [(takeConfigFault_spec info s).1]
@[simp] theorem takeConfigFault_sr (info : CfgError) (s : State) : (takeConfigFault info s).sr = s.sr := by
  rw [(takeConfigFault_spec info s).1]
@[simp] theorem takeConfigFault_duty (info : CfgError) (s : State) : (takeConfigFault info s).duty = s.duty := by
  rw [(takeConfigFault_spec info s).1]
@[simp] theorem takeConfigFault_dir (info : CfgError) (s : State) : (takeConfigFault info s).dir = s.dir := by
  rw [(takeConfigFault_spec info s).1]
@[simp] theorem takeConfigFault_ev (info : CfgError) (s : State) : (takeConfigFault info s).ev = s.ev := by
  rw [(takeConfigFault_spec info s).1]
@[simp] theorem takeConfigFault_chg (info : CfgError) (s : State) : (takeConfigFault info s).chg = s.chg := by
  rw [(takeConfigFault_spec info s).1]
@[simp] theorem takeConfigFault_phase (info : CfgError) (s : State) : (takeConfigFault info s).phase = s.phase := by
  rw [(takeConfigFault_spec info s).1]
@[simp] theorem takeConfigFault_inbox (info : CfgError) (s : State) : (takeConfigFault info s).inbox = s.inbox := by
  rw [(takeConfigFault_spec info s).1]
@[simp] theorem takeConfigFault_resetSeen (info : CfgError) (s : State) : (takeConfigFault info s).resetSeen = s.resetSeen := by
  rw [(takeConfigFault_spec info s).1]
@[simp] theorem takeConfigFault_trace (info : CfgError) (s : State) :
    (takeConfigFault info s).trace = s.trace ++ [.faultw faultConfig] := by
  rw [(takeConfigFault_spec info s).1]
@[simp] theorem takeConfigFault_draws (info : CfgError) (s : State) : (takeConfigFault info s).draws = s.draws + 1 := by
  rw [(takeConfigFault_spec info s).1]

/-- `CFG_CHECK` on a configuration it accepts. -/
theorem checkConfig_of_valid (s : State) (h : ConfigValid s.cfg) :
    checkConfig s = { s with fault := faultNone, faultInfo := none } := by
  have h' : cfgError s.cfg = none := h
  simp [checkConfig, h', State.setFault]

/-- `CFG_CHECK` on a configuration it rejects. -/
theorem checkConfig_of_error (s : State) (e : CfgError) (h : cfgError s.cfg = some e) :
    checkConfig s = takeConfigFault e s := by
  simp [checkConfig, h]

/-- `CFG_CHECK` records `CONFIG` exactly when the configuration is rejected. -/
theorem checkConfig_fault (s : State) :
    (checkConfig s).fault = if ConfigValid s.cfg then faultNone else faultConfig := by
  by_cases h : ConfigValid s.cfg
  · rw [checkConfig_of_valid s h, if_pos h]
  · obtain ⟨e, he⟩ := Option.ne_none_iff_exists'.1 h
    rw [checkConfig_of_error s e he, takeConfigFault_fault, if_neg h]

/-! The phases of a pass. -/

/-- The event vector after a poll phase that began with `EV = 0`. -/
def firedVector (st : Stimulus) (s : State) : BitVec 3 :=
  ~~~st &&& s.sr

theorem buttonBit_firedVector (st : Stimulus) (s : State) (b : Button) :
    buttonBit (firedVector st s) b = firedBy st s b := by
  cases b <;> simp [firedVector, firedBy, level, State.srBit, buttonBit, buttonIndex]

theorem pollPhase_eq (st : Stimulus) (s : State) :
    pollPhase st s.clearFlags = { s with
      sr := st, ev := firedVector st s, chg := false, phase := .poll .dirToggle, trace := s.trace ++ settles st s } := by
  apply State.eq_of_fields <;> simp only [pollPhase, buttons, List.foldl_cons, List.foldl_nil, pollButton_frame,
    State.setPhase_cfg, State.setPhase_duty, State.setPhase_dir, State.setPhase_ch0, State.setPhase_ch1,
    State.setPhase_tmrEn, State.setPhase_fault, State.setPhase_faultInfo, State.setPhase_chg, State.setPhase_phase,
    State.setPhase_inbox, State.setPhase_resetSeen, State.setPhase_draws, State.clearFlags_cfg, State.clearFlags_duty,
    State.clearFlags_dir, State.clearFlags_ch0, State.clearFlags_ch1, State.clearFlags_tmrEn, State.clearFlags_fault,
    State.clearFlags_faultInfo, State.clearFlags_chg, State.clearFlags_inbox, State.clearFlags_resetSeen,
    State.clearFlags_draws]
  · apply eq_of_buttonBit
    intro b
    change State.srBit _ b = _
    simp only [pollButton_srBit, setPhase_srBit]
    cases b <;> simp [level]
  · apply eq_of_buttonBit
    intro b
    rw [buttonBit_firedVector]
    simp only [pollButton_evBit, pollButton_srBit, setPhase_srBit, State.setPhase_ev, State.clearFlags_ev]
    cases b <;> simp [firedBy]
  · simp only [pollButton_trace, pollButton_srBit, setPhase_srBit, State.setPhase_trace, State.clearFlags_trace]
    cases h0 : level st .speedUp <;> cases h1 : level st .speedDown <;> cases h2 : level st .dirToggle <;>
      cases g0 : s.srBit .speedUp <;> cases g1 : s.srBit .speedDown <;> cases g2 : s.srBit .dirToggle <;>
      simp [settles, buttons, firedBy, h0, h1, h2, g0, g1, g2]

end Sys2Proof.Machine
end

