-- ==== Sys2Proof/Laws/Pass.lean ====
section
/-! SUPPORT. What the duty phase, the commit phase, a whole pass and a reset do, said once each; and what a step does with
the word it takes. -/

namespace Sys2Proof.Machine

/-! The duty phase. -/

/-- The duty after the operation of `DUTY_INC`, if it runs. -/
def dutyAfterInc (runs : Bool) (d : BitVec 7) : BitVec 7 :=
  if runs && decide (d.toNat < 100) then BitVec.ofNat 7 (d.toNat + 10) else d

/-- The duty after the operation of `DUTY_DEC`, if it runs. -/
def dutyAfterDec (runs : Bool) (d : BitVec 7) : BitVec 7 :=
  if runs && decide (0 < d.toNat) then BitVec.ofNat 7 (d.toNat - 10) else d

/-- The duty after the duty phase of a pass with events `ev`: INC, then DEC (44_control_pass.md R90). -/
def dutyAfter (ev : BitVec 3) (d : BitVec 7) : BitVec 7 :=
  dutyAfterDec (buttonBit ev .speedDown) (dutyAfterInc (buttonBit ev .speedUp) d)

/-- Whether some operation of the duty phase reports a change (41_duty_controller.md R72). -/
def dutyChanges (ev : BitVec 3) (d : BitVec 7) : Bool :=
  (buttonBit ev .speedUp && decide (d.toNat < 100)) ||
    (buttonBit ev .speedDown && decide (0 < (dutyAfterInc (buttonBit ev .speedUp) d).toNat)) ||
    buttonBit ev .dirToggle

theorem dutyPhase_eq (s : State) :
    dutyPhase s = { s with
      duty := dutyAfter s.ev s.duty
      dir := if s.evBit .dirToggle then Direction.flip s.dir else s.dir
      chg := s.chg || dutyChanges s.ev s.duty
      phase := .duty .dirToggle } := by
  have hturn (s : State) (b : Button) : (dutyTurn s b).ev = s.ev := by
    cases b <;> simp only [dutyTurn, dutyOperation, increaseDuty_eq, decreaseDuty_eq, toggleDir_eq] <;> split <;>
      (try split) <;> rfl
  cases h0 : s.evBit .speedUp <;> cases h1 : s.evBit .speedDown <;> cases h2 : s.evBit .dirToggle <;>
    simp only [State.evBit] at h0 h1 h2 <;>
    by_cases g : s.duty.toNat < 100 <;>
    simp [dutyPhase, buttons, dutyTurn, State.evBit, dutyOperation, increaseDuty_eq, decreaseDuty_eq, toggleDir_eq,
      dutyAfter, dutyAfterInc, dutyAfterDec, dutyChanges, h0, h1, h2, g, State.setPhase] <;>
    split <;> simp_all

theorem toNat_ofNat_duty (n : Nat) (h : n < 128) : (BitVec.ofNat 7 n).toNat = n := by
  rw [BitVec.toNat_ofNat]
  exact Nat.mod_eq_of_lt h

theorem dutyAfterInc_legal (runs : Bool) (d : BitVec 7) (h : DutyLegal d) : DutyLegal (dutyAfterInc runs d) := by
  obtain ⟨hle, hmod⟩ := h
  simp only [DutyLegal, dutyAfterInc]
  split
  · rename_i hc
    simp only [Bool.and_eq_true, decide_eq_true_eq] at hc
    rw [toNat_ofNat_duty _ (by omega)]
    omega
  · exact ⟨hle, hmod⟩

theorem dutyAfterDec_legal (runs : Bool) (d : BitVec 7) (h : DutyLegal d) : DutyLegal (dutyAfterDec runs d) := by
  obtain ⟨hle, hmod⟩ := h
  simp only [DutyLegal, dutyAfterDec]
  split
  · rename_i hc
    simp only [Bool.and_eq_true, decide_eq_true_eq] at hc
    rw [toNat_ofNat_duty _ (by omega)]
    omega
  · exact ⟨hle, hmod⟩

/-- A legal duty stays legal through a duty phase (41_duty_controller.md R71). -/
theorem dutyAfter_legal (ev : BitVec 3) (d : BitVec 7) (h : DutyLegal d) : DutyLegal (dutyAfter ev d) :=
  dutyAfterDec_legal _ _ (dutyAfterInc_legal _ _ h)

/-! The commit phase. -/

/-- Channel c's registers after a commit of the state's `DUTY` and `DIR` (44_control_pass.md R98). -/
def committedChannel (s : State) (c : Chan) : Channel :=
  { cmp := (newCmp s.cfg s.duty.toNat).getD 0
    mode := (newMode s.cfg s.duty.toNat (s.chan c).mode).getD 0
    pins := dirPins s.dir }

/-- The events of a commit, in order (44_control_pass.md R92). -/
def commitEvents (s : State) : List Event :=
  (channels s.cfg).map (fun c => .pwmw c (committedChannel s c).cmp (committedChannel s c).mode) ++
    (channels s.cfg).map (fun c => .dirw c (dirPins s.dir)) ++ [.render s.duty s.dir]

/-- `PWM_APPLY` under a valid configuration and a duty of at most 100. -/
theorem applyPwm_of_valid (c : Chan) (s : State) (hv : ConfigValid s.cfg) (hd : s.duty.toNat ≤ 100) :
    applyPwm c s = commitPair c (committedChannel s c).cmp (committedChannel s c).mode s := by
  obtain ⟨x, y, hx, hy⟩ := newPair_isSome s.cfg hv s.duty.toNat hd (s.chan c).mode
  rw [applyPwm_of_some c s x y hx hy]
  simp [committedChannel, hx, hy]

/-- The registers of each channel after a commit: the committed ones where the channel exists, as before elsewhere. -/
def channelAfterCommit (s : State) (c : Chan) : Channel :=
  if channelExists s.cfg c then committedChannel s c else s.chan c

theorem commitOutputs_eq (s : State) (hv : ConfigValid s.cfg) (hd : s.duty.toNat ≤ 100) :
    commitOutputs s = { s with
      ch0 := channelAfterCommit s 0
      ch1 := channelAfterCommit s 1
      phase := .commitRender
      trace := s.trace ++ commitEvents s } := by
  rcases channels_of_valid s.cfg hv with ⟨hn, hc⟩ | ⟨hn, hc⟩
  · have h0 : channelExists s.cfg 0 = true := by simp [channelExists, hn]
    have h1 : channelExists s.cfg 1 = false := by simp [channelExists, hn]
    simp only [commitOutputs, hc, List.foldl_cons, List.foldl_nil]
    rw [applyPwm_of_valid 0 (s.setPhase (.commitPwm 0)) hv hd]
    simp [commitPair_eq, applyDir_eq, requestRender_eq, channelAfterCommit, commitEvents, hc, h0, h1,
      committedChannel, State.setPhase, State.setChan, State.chan]
  · have h0 : channelExists s.cfg 0 = true := by simp [channelExists, hn]
    have h1 : channelExists s.cfg 1 = true := by simp [channelExists, hn]
    simp only [commitOutputs, hc, List.foldl_cons, List.foldl_nil]
    rw [applyPwm_of_valid 0 (s.setPhase (.commitPwm 0)) hv hd, applyPwm_of_valid 1 _ (by simpa [commitPair_eq] using hv)
      (by simpa [commitPair_eq] using hd)]
    simp [commitPair_eq, applyDir_eq, requestRender_eq, channelAfterCommit, commitEvents, hc, h0, h1,
      committedChannel, State.setPhase, State.setChan, State.chan]

/-- A phase that runs one channel operation after another writes only channel registers, `PHASE`, the draw count, and events
none of which is a settle, when each operation does. -/
theorem channelPhase_frame (ops : List Chan) (f : Chan → State → State) (p : Chan → Phase)
    (hf : ∀ c s, ∃ c0 c1 k ev, (∀ b, Event.settle b ∉ ev) ∧
      f c s = { s with ch0 := c0, ch1 := c1, draws := k, trace := s.trace ++ ev }) (s : State) :
    ∃ c0 c1 k ev ph, (∀ b, Event.settle b ∉ ev) ∧ ops.foldl (fun s c => f c (s.setPhase (p c))) s =
      { s with ch0 := c0, ch1 := c1, phase := ph, draws := k, trace := s.trace ++ ev } := by
  induction ops generalizing s with
  | nil => exact ⟨s.ch0, s.ch1, s.draws, [], s.phase, by simp, by simp⟩
  | cons c ops ih =>
    obtain ⟨c0, c1, k, ev, hev, h1⟩ := hf c (s.setPhase (p c))
    obtain ⟨c0', c1', k', ev', ph, hev', h2⟩ := ih (f c (s.setPhase (p c)))
    refine ⟨c0', c1', k', ev ++ ev', ph, fun b => by simp [hev b, hev' b], ?_⟩
    rw [List.foldl_cons, h2, h1]
    simp [State.setPhase]

/-- A commit in any state, the configuration valid or not: what it never writes, and that it emits no settle. -/
theorem commitOutputs_frame (s : State) :
    ∃ c0 c1 k ev, (∀ b, Event.settle b ∉ ev) ∧ commitOutputs s =
      { s with ch0 := c0, ch1 := c1, phase := .commitRender, draws := k, trace := s.trace ++ ev } := by
  have hpwm (c : Chan) (s : State) : ∃ c0 c1 k ev, (∀ b, Event.settle b ∉ ev) ∧
      applyPwm c s = { s with ch0 := c0, ch1 := c1, draws := k, trace := s.trace ++ ev } := by
    obtain ⟨x, y, k, h⟩ := applyPwm_cases c s
    rw [h, commitPair_eq]
    match c with
    | 0 => exact ⟨_, _, _, _, by simp, rfl⟩
    | 1 => exact ⟨_, _, _, _, by simp, rfl⟩
  have hdir (c : Chan) (s : State) : ∃ c0 c1 k ev, (∀ b, Event.settle b ∉ ev) ∧
      applyDir c s = { s with ch0 := c0, ch1 := c1, draws := k, trace := s.trace ++ ev } := by
    rw [applyDir_eq]
    match c with
    | 0 => exact ⟨_, _, _, _, by simp, rfl⟩
    | 1 => exact ⟨_, _, _, _, by simp, rfl⟩
  obtain ⟨c0, c1, k, ev, ph, hev, h1⟩ := channelPhase_frame (channels s.cfg) applyPwm .commitPwm hpwm s
  obtain ⟨c0', c1', k', ev', ph', hev', h2⟩ := channelPhase_frame (channels s.cfg) applyDir .commitDir hdir
    ((channels s.cfg).foldl (fun s c => applyPwm c (s.setPhase (.commitPwm c))) s)
  refine ⟨c0', c1', k', ev ++ ev' ++ [.render s.duty s.dir], fun b => by simp [hev b, hev' b], ?_⟩
  simp only [commitOutputs]
  rw [h2, h1]
  simp [requestRender_eq, State.setPhase]

/-! A whole pass. -/

/-- The state after the poll and duty phases of a pass. -/
def afterDuty (st : Stimulus) (s : State) : State :=
  { s with
    sr := st
    ev := firedVector st s
    duty := dutyAfter (firedVector st s) s.duty
    dir := if firedBy st s .dirToggle then Direction.flip s.dir else s.dir
    chg := dutyChanges (firedVector st s) s.duty
    phase := .duty .dirToggle
    trace := s.trace ++ settles st s }

/-- A pass is its poll and duty phases, then its commit phase. -/
theorem runPass_eq (st : Stimulus) (s : State) :
    runPass st s = (if (afterDuty st s).chg then commitOutputs (afterDuty st s) else afterDuty st s).setPhase .idle := by
  have h : dutyPhase (pollPhase st s.clearFlags) = afterDuty st s := by
    rw [pollPhase_eq, dutyPhase_eq]
    simp [afterDuty, State.evBit, buttonBit_firedVector]
  rw [runPass, commitPhase, h]

/-- A pass that commits. -/
theorem runPass_of_chg (st : Stimulus) (s : State) (hv : ConfigValid s.cfg) (hd : DutyLegal s.duty)
    (hc : dutyChanges (firedVector st s) s.duty = true) :
    runPass st s = { afterDuty st s with
      ch0 := channelAfterCommit (afterDuty st s) 0
      ch1 := channelAfterCommit (afterDuty st s) 1
      phase := .idle
      trace := s.trace ++ settles st s ++ commitEvents (afterDuty st s) } := by
  have hd' : (afterDuty st s).duty.toNat ≤ 100 := (dutyAfter_legal _ _ hd).1
  rw [runPass_eq, if_pos (by exact hc), commitOutputs_eq (afterDuty st s) hv hd']
  rfl

/-- A pass that does not commit (44_control_pass.md R94). -/
theorem runPass_of_not_chg (st : Stimulus) (s : State) (hc : dutyChanges (firedVector st s) s.duty = false) :
    runPass st s = { afterDuty st s with phase := .idle } := by
  rw [runPass_eq, if_neg (by simp [afterDuty, hc])]
  rfl

/-- A pass in any state: beyond its poll and duty phases it writes only channel registers and the draw count, ends idle,
and emits no settle after its polls. -/
theorem runPass_frame (st : Stimulus) (s : State) :
    ∃ c0 c1 k ev, (∀ b, Event.settle b ∉ ev) ∧ runPass st s =
      { afterDuty st s with
        ch0 := c0, ch1 := c1, phase := .idle, draws := k, trace := s.trace ++ settles st s ++ ev } := by
  rw [runPass_eq]
  split
  · obtain ⟨c0, c1, k, ev, hev, h⟩ := commitOutputs_frame (afterDuty st s)
    rw [h]
    exact ⟨c0, c1, k, ev, hev, rfl⟩
  · exact ⟨s.ch0, s.ch1, s.draws, [], by simp, by simp [afterDuty, State.setPhase]⟩

/-- When a `PASS` answers a next state, and which. -/
theorem execPass_eq_next (st : Stimulus) (s t : State) :
    execPass st s = .next t ↔ s.resetSeen = true ∧ s.fault = faultNone ∧ t = runPass st s := by
  simp only [execPass]
  split_ifs with h1 h2
  · simp [h1]
  · exact ⟨fun h => (by cases h), fun ⟨_, hf, _⟩ => absurd hf h2⟩
  · refine ⟨fun h => ?_, fun ⟨_, _, ht⟩ => by rw [ht]⟩
    cases h
    exact ⟨by simpa using h1, not_ne_iff.1 h2, rfl⟩

/-! The reset. -/

/-- The registers of a channel right after `RESET` (70_reset_and_hazards.md R114). -/
def resetChannel (cfg : Config) (c : Chan) : Channel :=
  { cmp := 0, mode := clearDsub cfg (BitVec.ofNat 8 (modeInit cfg c)), pins := 0b10 }

/-- The events of a `RESET` (70_reset_and_hazards.md R113). -/
def resetEvents (cfg : Config) : List Event :=
  (channels cfg).map (fun c => .pwmw c 0 (resetChannel cfg c).mode) ++ [.tmrw] ++
    (channels cfg).map (fun c => .dirw c 0b10) ++ [.render 0 .cw]

theorem execReset_of_valid (s : State) (hv : ConfigValid s.cfg) :
    execReset s = .next { s with
      sr := 0b111
      duty := 0
      dir := .cw
      ch0 := resetChannel s.cfg 0
      ch1 := if channelExists s.cfg 1 then resetChannel s.cfg 1 else s.ch1
      tmrEn := true
      fault := faultNone
      faultInfo := none
      phase := .idle
      trace := s.trace ++ resetEvents s.cfg
      resetSeen := true } := by
  have hsr : setButtonBit (setButtonBit (setButtonBit s.sr .speedUp true) .speedDown true) .dirToggle true = 0b111 := by
    apply eq_of_buttonBit
    intro b
    cases b <;> simp only [buttonBit_setButtonBit] <;> rfl
  have hp : dirPins .cw = 0b10 := rfl
  simp only [execReset]
  rw [checkConfig_of_valid _ (by exact hv), if_pos rfl]
  rcases channels_of_valid s.cfg hv with ⟨hn, hc⟩ | ⟨hn, hc⟩
  · have h1 : channelExists s.cfg 1 = false := by simp [channelExists, hn]
    simp [initBlock, buttons, hc, initPwm_eq, commitPair_eq, startTimer_eq, applyDir_eq, requestRender_eq, h1,
      resetChannel, resetEvents, State.setPhase, State.setChan, State.chan, State.setSr, State.setDuty, State.setDir,
      State.setTmrEn, State.markReset, hsr, hp]
  · have h1 : channelExists s.cfg 1 = true := by simp [channelExists, hn]
    simp [initBlock, buttons, hc, initPwm_eq, commitPair_eq, startTimer_eq, applyDir_eq, requestRender_eq, h1,
      resetChannel, resetEvents, State.setPhase, State.setChan, State.chan, State.setSr, State.setDuty, State.setDir,
      State.setTmrEn, State.markReset, hsr, hp]

theorem execReset_of_error (s : State) (e : CfgError) (h : cfgError s.cfg = some e) :
    execReset s = .next (takeConfigFault e ((s.markReset).setPhase .init)).forgetInternals := by
  simp only [execReset]
  rw [checkConfig_of_error _ e (by exact h), if_neg]
  rw [takeConfigFault_fault]
  decide

/-! A step. -/

/-- What a step that answers a next state did: it waited, or it ran the word it took. -/
theorem step_next_cases (s t : State) (h : step s = .next t) :
    (s.inbox = [] ∧ t = s.beginStep []) ∨
      ∃ r rest i, s.inbox = r :: rest ∧ decode r.word = .ok i ∧ issueError r.issuer i = none ∧
        exec i (s.beginStep rest) = .next t := by
  cases hin : s.inbox with
  | nil =>
    simp only [step, fetch, hin] at h
    cases h
    exact .inl ⟨rfl, rfl⟩
  | cons r rest =>
    cases hdec : decode r.word with
    | error why => simp [step, fetch, hin, hdec] at h
    | ok i =>
      cases hiss : issueError r.issuer i with
      | some why => simp [step, fetch, hin, hdec, hiss] at h
      | none =>
        simp only [step, fetch, hin, hdec, hiss] at h
        exact .inr ⟨r, rest, i, rfl, hdec, hiss, h⟩

/-- What a word of the environment's is, in every state alike: no step, or a `RESET` or a `PASS` that the step runs
(30_encoding.md R63). -/
theorem step_presentOnly (w : Byte) :
    (∃ why, ∀ s : State, step (s.presentOnly w) = .refused (.refusedEncoding why)) ∨
      ∃ i, (i = .reset ∨ ∃ st, i = .pass st) ∧
        ∀ s : State, step (s.presentOnly w) = exec i { s with trace := [], inbox := [] } := by
  cases hdec : decode w with
  | error why => exact .inl ⟨why, fun s => by simp [step, fetch, State.presentOnly, hdec]⟩
  | ok i =>
    by_cases hi : i.isStep = true
    · refine .inr ⟨i, ?_, fun s => by simp [step, fetch, State.presentOnly, hdec, issueError, hi, State.beginStep]⟩
      cases i <;> simp [Instr.isStep] at hi ⊢
    · exact .inl ⟨.environmentMicroOp, fun s => by simp [step, fetch, State.presentOnly, hdec, issueError, hi]⟩

/-! The observation. -/

/-- In normal operation every register is seen (00_scope.md R8). -/
theorem observe_of_faultNone (s : State) (h : s.fault = faultNone) :
    s.observe = { fault := faultNone, registers := some s.registers, trace := s.trace } := by
  simp [State.observe, h]

/-- Outside normal operation `FAULT` and the trace alone are seen (60_exceptions.md R102). -/
theorem observe_of_fault (s : State) (h : s.fault ≠ faultNone) :
    s.observe = { fault := s.fault, registers := none, trace := s.trace } := by
  rw [State.observe, if_neg h]

end Sys2Proof.Machine
end

