-- ==== Sys2Proof/Laws/PerInstr.lean ====
section
/-! SUPPORT. A statement about every operation as syntax, one lemma per constructor: an assembly line reads back as the
operation it was written for (30_encoding.md R61). -/

namespace Sys2Proof.Laws.AssemblyReadsBack

/-- The line written for an operation is read as that operation. -/
def Statement (i : Instr) : Prop :=
  Sys2Proof.Machine.parseLine (Sys2Proof.Machine.asmTokens i) = some [i]

theorem reset : Statement .reset := by
  unfold Statement
  decide

theorem debPoll (b : Button) (l : Bool) : Statement (.debPoll b l) := by
  unfold Statement
  cases b <;> cases l <;> decide

theorem dutyInc : Statement .dutyInc := by
  unfold Statement
  decide

theorem dutyDec : Statement .dutyDec := by
  unfold Statement
  decide

theorem dirToggle : Statement .dirToggle := by
  unfold Statement
  decide

theorem pwmInit (c : Chan) : Statement (.pwmInit c) := by
  unfold Statement
  revert c
  decide

theorem pwmApply (c : Chan) : Statement (.pwmApply c) := by
  unfold Statement
  revert c
  decide

theorem dirApply (c : Chan) : Statement (.dirApply c) := by
  unfold Statement
  revert c
  decide

theorem tmrStart : Statement .tmrStart := by
  unfold Statement
  decide

theorem renderReq : Statement .renderReq := by
  unfold Statement
  decide

theorem pass (st : Stimulus) : Statement (.pass st) := by
  unfold Statement
  revert st
  decide

theorem cfgCheck : Statement .cfgCheck := by
  unfold Statement
  decide

end Sys2Proof.Laws.AssemblyReadsBack
end

