-- ==== Sys2Proof/Tests/Slice0.lean ====
section
/-! SUPPORT. The model's own tests. Expected values are from spec/95_test_vectors.md and the examples of the rules named.
The last part shows, for each statement with hypotheses, a state and operands that meet them together. -/

namespace Sys2Proof.Tests

open Sys2Proof.Machine

/-! Helpers. -/

/-- The next state an outcome answers, if it answers one. -/
def after (o : Host.Outcome State Fault Refusal) : Option State :=
  match o with
  | .next s => some s
  | .fault _ => none
  | .refused _ => none

/-- The configuration `{N_CH, RES, PERIOD, MODE_SHIFT, MODE_INIT}` of 95_test_vectors.md, every channel with one init. -/
def cfgOf (nCh res period modeShift init : Nat) : Config :=
  { nCh := nCh, res := res, period := period, modeShift := modeShift, modeInit0 := init, modeInit1 := init,
    settleDelay := 50 }

/-- A block of that configuration right after a reset, with an empty trace. -/
def blockOf (nCh res period modeShift init : Nat) : State :=
  { State.reset with
    cfg := cfgOf nCh res period modeShift init
    ch0 := { cmp := 0, mode := clearDsub (cfgOf nCh res period modeShift init) (BitVec.ofNat 8 init), pins := 0b10 }
    ch1 := { cmp := 0, mode := clearDsub (cfgOf nCh res period modeShift init) (BitVec.ofNat 8 init), pins := 0b10 }
    trace := [] }

/-- The example block `{1, 10, 124, 4, 0x0C}` of 95_test_vectors.md L2.5. -/
def one : State := blockOf 1 10 124 4 0x0C

/-- A two-channel block with one word presented by the environment. -/
def presented (w : Byte) : State :=
  { State.reset with inbox := [{ issuer := .environment, word := w }] }

/-! WellFormed: the one check, that a channel exists, refuses each operation that names channel 1 of a block of one. -/

theorem test_wellFormed_refuses_pwmInit : Instr.wellFormed one.cfg (.pwmInit 1) = false := by decide
theorem test_wellFormed_refuses_pwmApply : Instr.wellFormed one.cfg (.pwmApply 1) = false := by decide
theorem test_wellFormed_refuses_dirApply : Instr.wellFormed one.cfg (.dirApply 1) = false := by decide
theorem test_wellFormed_accepts_two_channels : Instr.wellFormed State.reset.cfg (.dirApply 1) = true := by decide

/-! Decoding: words written from 30_encoding.md R50, one at least for every constructor. -/

theorem test_decode_reset : decode 0b00000000#8 = .ok .reset := by rfl
theorem test_decode_debPoll : decode 0b00010110#8 = .ok (.debPoll .dirToggle true) := by rfl
theorem test_decode_debPoll_down : decode 0b00010001#8 = .ok (.debPoll .speedDown false) := by rfl
theorem test_decode_dutyInc : decode 0b00100000#8 = .ok .dutyInc := by rfl
theorem test_decode_dutyDec : decode 0b00100001#8 = .ok .dutyDec := by rfl
theorem test_decode_dirToggle : decode 0b00100010#8 = .ok .dirToggle := by rfl
theorem test_decode_pwmInit : decode 0b00110001#8 = .ok (.pwmInit 1) := by rfl
theorem test_decode_pwmApply : decode 0b01000000#8 = .ok (.pwmApply 0) := by rfl
theorem test_decode_dirApply : decode 0b01010001#8 = .ok (.dirApply 1) := by rfl
theorem test_decode_tmrStart : decode 0b01100000#8 = .ok .tmrStart := by rfl
theorem test_decode_renderReq : decode 0b01110000#8 = .ok .renderReq := by rfl
theorem test_decode_pass : decode 0b10000011#8 = .ok (.pass 0b011) := by rfl
theorem test_decode_cfgCheck : decode 0b10010000#8 = .ok .cfgCheck := by rfl
theorem test_decode_reserved_button : decode 0x13#8 = .error .reservedButton := by rfl
theorem test_decode_reserved_after_pass : decode 0x88#8 = .error .reservedWord := by rfl
theorem test_decode_reserved_top : decode 0xFF#8 = .error .reservedWord := by rfl
theorem test_decodeTableWord : decodeTableWord 8 0x16 = some (.debPoll .dirToggle true) := by rfl

/-! One step of each operation. -/

/-- 40_debounce.md R64, the example. -/
theorem test_debPoll_fires : (after (exec (.debPoll .speedUp false) one)).map (fun t => (t.sr, t.ev, t.trace)) =
    some (0b110, 0b001, [.settle .speedUp]) := by decide
/-- 95_test_vectors.md L2.1: a release re-arms with no event. -/
theorem test_debPoll_rearms :
    (after (exec (.debPoll .speedDown true) { one with sr := 0b101 })).map (fun t => (t.sr, t.ev, t.trace)) =
      some (0b111, 0, []) := by decide
/-- 41_duty_controller.md R68, the example, and the saturation of L2.2. -/
theorem test_dutyInc : (after (exec .dutyInc { one with duty := 30 })).map (fun t => (t.duty, t.chg)) =
    some (40, true) := by decide
theorem test_dutyInc_saturates : (after (exec .dutyInc { one with duty := 100 })).map (fun t => (t.duty, t.chg)) =
    some (100, false) := by decide
/-- 41_duty_controller.md R69: from 10 to 0, and no wrap at 0. -/
theorem test_dutyDec : (after (exec .dutyDec { one with duty := 10 })).map (fun t => (t.duty, t.chg)) =
    some (0, true) := by decide
theorem test_dutyDec_saturates : (after (exec .dutyDec one)).map (fun t => (t.duty, t.chg)) = some (0, false) := by decide
/-- 41_duty_controller.md R70, the example. -/
theorem test_dirToggle : (after (exec .dirToggle one)).map (fun t => (t.dir, t.chg)) = some (.ccw, true) := by decide
/-- 95_test_vectors.md L2.3, `PWM_INIT` rows. -/
theorem test_pwmInit : (after (exec (.pwmInit 0) (blockOf 1 10 124 4 0x3C))).map (fun t => (t.ch0.cmp, t.ch0.mode)) =
    some (0, 0x0C) := by decide
theorem test_pwmInit_top : (after (exec (.pwmInit 1) (blockOf 2 10 124 6 0xFF))).map (fun t => (t.ch1.mode, t.trace)) =
    some (0x3F, [.pwmw 1 0 0x3F]) := by decide
/-- 42_pwm_translator.md R75, the example, and the 8-bit row of L2.3 at `PERIOD = 255`. -/
theorem test_pwmApply_ten_bit : (after (exec (.pwmApply 0) { one with duty := 10 })).map (fun t => t.trace) =
    some [.pwmw 0 12 0x2C] := by decide
theorem test_pwmApply_eight_bit :
    (after (exec (.pwmApply 0) { blockOf 1 8 255 4 0x0C with duty := 70 })).map (fun t => t.trace) =
      some [.pwmw 0 178 0x0C] := by decide
/-- 43_direction_driver.md R83, the example. -/
theorem test_dirApply : (after (exec (.dirApply 0) { one with dir := .ccw })).map (fun t => (t.ch0.pins, t.trace)) =
    some (0b01, [.dirw 0 0b01]) := by decide
theorem test_dirApply_absent : exec (.dirApply 1) one = .refused (.refusedEncoding .absentChannel) := by rfl
/-- 42_pwm_translator.md R77, the example. -/
theorem test_tmrStart : (after (exec .tmrStart { one with tmrEn := false })).map (fun t => (t.tmrEn, t.trace)) =
    some (true, [.tmrw]) := by decide
/-- 44_control_pass.md R93, the example. -/
theorem test_renderReq : (after (exec .renderReq { one with duty := 30 })).map (fun t => t.trace) =
    some [.render 30 .cw] := by decide
/-- 95_test_vectors.md L2.5: word 0x84 from duty 100, INC saturates and DEC runs (order D5). -/
theorem test_pass_order :
    (after (exec (.pass 0b100) { one with duty := 100 })).map (fun t => (t.duty, t.sr, t.trace)) =
      some (90, 0b100, [.settle .speedUp, .settle .speedDown, .pwmw 0 112 0x2C, .dirw 0 0b10, .render 90 .cw]) := by
  decide
/-- 95_test_vectors.md P1 step 7: both channels switch in one pass. -/
theorem test_pass_toggle_two_channels :
    (after (step { presented 0x83 with duty := 30 })).map (fun t => (t.dir, t.trace)) =
      some (.ccw, [.settle .dirToggle, .pwmw 0 37 0x2C, .pwmw 1 37 0x2C, .dirw 0 0b01, .dirw 1 0b01, .render 30 .ccw]) := by
  decide
/-- 95_test_vectors.md L2.6: the reset traces of a two-channel block and of the largest 10-bit period. -/
theorem test_reset_two_channels : (after (step (presented 0x00))).map (fun t => t.trace) =
    some [.pwmw 0 0 0x0C, .pwmw 1 0 0x0C, .tmrw, .dirw 0 0b10, .dirw 1 0b10, .render 0 .cw] := by decide
/-- 95_test_vectors.md P4 step 1: the fault, its code, its info and its event. -/
theorem test_reset_config_fault :
    (after (exec .reset (blockOf 1 10 255 4 0x0C))).map (fun t => (t.fault, t.faultInfo, t.trace)) =
      some (1, some .periodOverflow, [.faultw 1]) := by decide
/-- 95_test_vectors.md L2.6, the last row: the first check that fails is the one reported. -/
theorem test_cfgCheck_first_failure : (after (exec .cfgCheck (blockOf 3 10 255 7 0x0C))).map (fun t => t.faultInfo) =
    some (some .nChRange) := by decide
/-- 10_state.md R30: a check that fails, run on its own, keeps the registers that are no outputs. -/
theorem test_cfgCheck_keeps_internals :
    (after (exec .cfgCheck { blockOf 1 10 255 4 0x0C with sr := 0b101, duty := 40, dir := .ccw })).map
      (fun t => (t.sr, t.duty, t.dir, t.fault)) = some (0b101, 40, .ccw, 1) := by decide
theorem test_cfgCheck_accepts : (after (exec .cfgCheck (blockOf 1 8 255 6 0xFF))).map (fun t => t.fault) =
    some 0 := by decide
/-- 95_test_vectors.md L2.7: before the first `RESET`; a micro-operation of the environment's; the stuck pass of P4. -/
theorem test_pass_before_reset : exec (.pass 0b110) (powerOn Config.example124) = .refused .refusedNoReset := by rfl
theorem test_environment_microOp : step (presented 0x20) = .refused (.refusedEncoding .environmentMicroOp) := by rfl
theorem test_pass_stuck : exec (.pass 0b110) { one with fault := 1 } = .fault .passInConfigFault := by rfl
/-- 95_test_vectors.md P5: the bytes of the program. -/
theorem test_assemble_P5 :
    assemble [["RESET", ";", "00"], ["CLICK.UP"], ["HOLD.TOG"], ["RESET"], ["PASS", "0b011"]] =
      some [0x00, 0x86, 0x87, 0x83, 0x00, 0x83] := by decide
theorem test_assemble_refuses_microOp : assemble [["DUTY_INC"]] = none := by decide
/-- A row's word is what the very next step runs. -/
theorem test_withFetchWord :
    (after (step (State.reset.withFetchWord 8 0x50))).map (fun t => t.trace) = some [.dirw 0 0b10] := by decide

/-! Witnesses: hypotheses of the statements, met together. -/

theorem test_witness_EncodeInvertsDecode : decode 0x15#8 = .ok (.debPoll .speedDown true) := by rfl
theorem test_witness_ReservedWordsRefused :
    (presented 0x01).inbox = { issuer := .environment, word := 0x01 } :: [] ∧ ReservedWord (presented 0x01).cfg 0x01 ∧
      ReservedWord one.cfg 0x0F ∧ ReservedWord one.cfg 0x13 ∧ ReservedWord one.cfg 0x51 ∧ ReservedWord one.cfg 0x91 ∧
      ReservedWord one.cfg 0xFF :=
  ⟨rfl, by decide, by decide, by decide, by decide, by decide, by decide⟩
theorem test_witness_ReservedWordsRefused_others :
    ConfigValid State.reset.cfg ∧ ¬ReservedWord State.reset.cfg 0x31 ∧ ¬ReservedWord one.cfg 0x30 ∧
      ¬ReservedWord one.cfg 0x87 ∧ ¬ReservedWord one.cfg 0x90 :=
  ⟨by decide, by decide, by decide, by decide, by decide⟩
theorem test_witness_EnvironmentMayIssueOnlySteps :
    (presented 0x70).inbox = { issuer := .environment, word := 0x70 } :: [] ∧
      ¬((0x70#8) = 0x00 ∨ (0x80 ≤ (0x70#8) ∧ (0x70#8) ≤ 0x87)) ∧
      ¬((0x88#8) = 0x00 ∨ (0x80 ≤ (0x88#8) ∧ (0x88#8) ≤ 0x87)) := by decide
theorem test_witness_StepRunsPresentedWord :
    (presented 0x86).inbox = { issuer := .environment, word := 0x86 } :: [] ∧
      decode 0x86#8 = .ok (.pass 0b110) ∧ issueError .environment (.pass 0b110) = none := ⟨rfl, rfl, rfl⟩
theorem test_witness_StepWaitsWithoutWord : State.reset.inbox = [] := by rfl
/-- Also of `PassesGoOnForEver`, `PassPollsEveryButton`: pressing, holding, releasing and pressing again. -/
theorem test_witness_PressEventsAreRunsOfZero :
    State.reset.resetSeen = true ∧ State.reset.fault = faultNone ∧ State.reset.sr = 0b111 ∧
      (passStates [0b110, 0b110, 0b111, 0b110] State.reset).length = 4 ∧
      pressedRuns true ([(0b110 : Stimulus), 0b110, 0b111, 0b110].map (fun st => level st .speedUp)) = 2 := by decide
theorem test_witness_HeldButtonFiresAfterReset : ConfigValid State.reset.cfg ∧ level 0b011 .dirToggle = false := by decide
theorem test_witness_ClickGivesOnePressEvent :
    State.reset.resetSeen = true ∧ State.reset.fault = faultNone ∧ State.reset.srBit .speedUp = true ∧
      level 0b110 .speedUp = false ∧ level 0b111 .speedUp = true := by decide
/-- Of `DutyIncSaturatesAtHundred`, `DutyDecSaturatesAtZero`, `RepeatedDutySteps`: both clauses at their boundaries. -/
theorem test_witness_duty_boundaries :
    DutyLegal 0 ∧ DutyLegal 10 ∧ DutyLegal 90 ∧ DutyLegal 100 ∧ (90#7).toNat < 100 ∧ 100 ≤ (100#7).toNat ∧
      0 < (10#7).toNat ∧ (0#7).toNat = 0 := by decide
theorem test_witness_PwmValueFitsRegisters :
    ConfigValid (cfgOf 1 10 254 0 0xFF) ∧ ConfigValid (cfgOf 1 8 255 6 0xFF) ∧ 0 ≤ 100 ∧ 100 ≤ 100 := by decide
/-- Of `PwmApplyWritesPair`, `TenBitSplitReadsBack`, `PwmApplyTwiceSameRegisters`, `PwmInitClearsSubfield`: the last
channel, the largest 10-bit period, the top sub-field, duty 100. -/
theorem test_witness_pwmApply_ten_bit :
    ConfigValid (blockOf 2 10 254 6 0xFF).cfg ∧ (blockOf 2 10 254 6 0xFF).cfg.res = 10 ∧
      channelExists (blockOf 2 10 254 6 0xFF).cfg 1 = true ∧
      ({ blockOf 2 10 254 6 0xFF with duty := 100 } : State).duty.toNat ≤ 100 := by decide
/-- Of `PwmApplyWritesPair`, `EightBitPairReadsShifted`: the largest 8-bit period, the bottom sub-field. -/
theorem test_witness_pwmApply_eight_bit :
    ConfigValid (blockOf 1 8 255 0 0xFF).cfg ∧ (blockOf 1 8 255 0 0xFF).cfg.res = 8 ∧
      channelExists (blockOf 1 8 255 0 0xFF).cfg 0 = true ∧
      ({ blockOf 1 8 255 0 0xFF with duty := 100 } : State).duty.toNat ≤ 100 ∧
      dsub (blockOf 1 8 255 0 0xFF).cfg (blockOf 1 8 255 0 0xFF).ch0.mode = 0 := by decide
theorem test_witness_ZeroDutyGivesZeroOutput :
    BlockInv State.reset ∧ State.reset.resetSeen = true ∧ State.reset.fault = faultNone ∧
      channelExists State.reset.cfg 1 = true ∧ State.reset.duty = 0 := ⟨by decide, rfl, rfl, rfl, rfl⟩
theorem test_witness_ExactValuesAtPeriod124 :
    ConfigValid one.cfg ∧ one.cfg.res = 10 ∧ one.cfg.period = 124 ∧ channelExists one.cfg 0 = true ∧
      DutyLegal ({ one with duty := 90 } : State).duty := by decide
theorem test_witness_TimerIsNeverStopped :
    ConfigValid one.cfg ∧ one.tmrEn = true ∧ ∃ t, exec (.pass 0b110) one = .next t := ⟨by decide, by decide, _, rfl⟩
theorem test_witness_DirApplySetsPattern :
    channelExists State.reset.cfg 1 = true ∧ State.reset.dir = .cw ∧ ({ State.reset with dir := .ccw } : State).dir = .ccw := by
  decide
theorem test_witness_EveryDirectionWriteIsLegal :
    ∃ t, step (presented 0x86) = .next t ∧ Event.dirw 1 0b10 ∈ t.trace := ⟨_, rfl, by decide⟩
theorem test_witness_TwoTogglesRestorePins :
    (BlockInv State.reset ∧ EnvironmentOnly State.reset ∧ OutputsCommitted State.reset) ∧
      State.reset.resetSeen = true ∧ State.reset.fault = faultNone ∧ State.reset.srBit .dirToggle = true ∧
      level 0b011 .dirToggle = false ∧ level 0b111 .dirToggle = true ∧ level 0b000 .dirToggle = false :=
  ⟨⟨by decide, by decide, by decide⟩, by decide⟩
/-- Of `PassAppliesFiredOperations`, `PassChangeFlagIsOrOfReports`, `PassCommitsInOrder`, `PassPollsEveryButton`. -/
theorem test_witness_pass :
    State.reset.resetSeen = true ∧ State.reset.fault = faultNone ∧ ConfigValid State.reset.cfg ∧
      DutyLegal State.reset.duty := by decide
theorem test_witness_PassWithoutChangeKeepsOutputs :
    ∃ t, exec (.pass 0b101) State.reset = .next t ∧ t.chg = false := ⟨_, rfl, by decide⟩
theorem test_witness_CommittingPassIsLockStep :
    BlockInv State.reset ∧ ∃ t, exec (.pass 0b100) State.reset = .next t ∧ t.chg = true :=
  ⟨by decide, _, rfl, by decide⟩
theorem test_witness_PassBeforeResetRefused : (powerOn Config.example124).resetSeen = false := by rfl
theorem test_witness_PassStuckInConfigFault :
    ({ one with fault := 1 } : State).resetSeen = true ∧ ({ one with fault := 1 } : State).fault = faultConfig := by decide
/-- Each clause of `CfgCheckReportsFirstFailure` at a boundary (95_test_vectors.md L2.6), and the clause that passes. -/
theorem test_witness_CfgCheckReportsFirstFailure :
    cfgError (cfgOf 3 10 124 4 0x0C) = some .nChRange ∧ cfgError (cfgOf 0 9 124 4 0x0C) = some .nChRange ∧
      cfgError (cfgOf 1 9 124 4 0x0C) = some .resRange ∧
      cfgError (cfgOf 1 10 255 4 0x0C) = some .periodOverflow ∧ cfgError (cfgOf 1 8 256 7 0x0C) = some .periodOverflow ∧
      cfgError (cfgOf 1 10 124 7 0x0C) = some .modeShiftRange ∧
      cfgError (cfgOf 2 10 124 4 0x100) = some .modeInitRange ∧ cfgError (cfgOf 2 10 254 6 0xFF) = none := by decide
/-- Also of `ResetLeavesResetState`. -/
theorem test_witness_ResetDiscardsHistory :
    ConfigValid one.cfg ∧ one.cfg = ({ one with duty := 40, dir := .ccw, sr := 0 } : State).cfg ∧
      one.trace = ({ one with duty := 40, dir := .ccw, sr := 0 } : State).trace ∧
      (∃ t, exec .reset one = .next t) ∧ ∃ t, exec .reset { one with duty := 40, dir := .ccw, sr := 0 } = .next t :=
  ⟨by decide, rfl, rfl, ⟨_, rfl⟩, ⟨_, rfl⟩⟩
theorem test_witness_InvalidConfigResetFaults : ¬ConfigValid (blockOf 1 10 255 4 0x0C).cfg := by decide
theorem test_witness_ConfigFaultPersists :
    ¬ConfigValid (blockOf 1 10 255 4 0x0C).cfg ∧
      ({ blockOf 1 10 255 4 0x0C with fault := 1 } : State).fault = faultConfig ∧
      ∃ t, exec .reset { blockOf 1 10 255 4 0x0C with fault := 1 } = .next t := ⟨by decide, rfl, _, rfl⟩
/-- Also of `SettleDelayIsNotRead`. -/
theorem test_witness_WritersOfEachRegister :
    ConfigValid State.reset.cfg ∧ ∃ t, exec (.pass 0b100) State.reset = .next t ∧ t.sr ≠ State.reset.sr :=
  ⟨by decide, _, rfl, by decide⟩
theorem test_witness_AbsentChannelHasNoState : one.cfg.nCh = 1 ∧ ∃ t, exec (.pass 0b000) one = .next t :=
  ⟨rfl, _, rfl⟩
/-- Both clauses of `CfgCheckKeepsOtherRegisters`: a check that passes, and an absent channel. -/
theorem test_witness_CfgCheckKeepsOtherRegisters :
    ConfigValid one.cfg ∧ (1 : Chan) ∉ channels one.cfg ∧ (1 : Chan) ∉ channels (blockOf 1 10 255 4 0x0C).cfg := by decide
/-- A run with a `RESET`, a committing pass and a word without a step. -/
theorem test_witness_AddedStateIsNeverObserved :
    BlockInv State.reset ∧ (observeRun [0x00, 0x86, 0x01] State.reset).length = 3 := ⟨by decide, by decide⟩
theorem test_witness_OperationsIgnoreAddedState :
    ConfigValid one.cfg ∧ DutyLegal one.duty ∧ ∃ t, exec (.pass 0b110) one = .next t := ⟨by decide, by decide, _, rfl⟩
/-- Also of `ConfigurationIsFixed` and `EveryStepKeepsBlockInv`. -/
theorem test_witness_EveryStepKeepsBoundaryInv :
    (BlockInv (presented 0x86) ∧ EnvironmentOnly (presented 0x86) ∧ OutputsCommitted (presented 0x86)) ∧
      ∃ t, step (presented 0x86) = .next t := ⟨⟨by decide, by decide, by decide⟩, _, rfl⟩

end Sys2Proof.Tests
end

/-! PROOFS. The link from a presented word to the operation that the step runs (00_scope.md R7, 30_encoding.md R60). -/

namespace Sys2Proof

/-! A word and its operation (30_encoding.md R50). -/

/-- The word of an operation decodes to that operation, whatever its operands: each field has few values, and each
word reads back (30_encoding.md R50, R59). -/
theorem decode_encode (i : Instr) : decode (encode i) = .ok i := by
  cases i with
  | reset | dutyInc | dutyDec | dirToggle | tmrStart | renderReq | cfgCheck => rfl
  | debPoll b l => cases b <;> cases l <;> rfl
  | pwmInit c | pwmApply c | dirApply c => fin_cases c <;> rfl
  | pass st =>
    revert st
    decide

end Sys2Proof

namespace Sys2Proof.Machine

/-! Who presents a word. -/

/-- The issuer that `State.present` names for a word may present the operation of that word (30_encoding.md R50, R63). -/
theorem issueError_issuerOf {w : Byte} {i : Instr} (hdec : decode w = .ok i) :
    issueError (issuerOf w) i = none := by
  cases hstep : i.isStep <;> simp [issuerOf, hdec, issueError, hstep]

/-! The step of a presented word. -/

/-- A word that decodes, presented by who may present it, is taken with its operation to run (30_encoding.md R60). -/
theorem fetch_of_decode {s : State} {r : Request} {rest : List Request} {i : Instr} (hin : s.inbox = r :: rest)
    (hdec : decode r.word = .ok i) (hiss : issueError r.issuer i = none) :
    fetch s = .run i (s.beginStep rest) := by
  simp [fetch, hin, hdec, hiss]

/-- Settles O6: the step runs what `fetch` takes. -/
theorem stepRunsPresentedWord : Obligations.StepRunsPresentedWord := by
  intro s r rest i hin hdec hiss
  rw [step, fetch_of_decode hin hdec hiss, State.beginStep]

/-- A word of one byte, put where a step takes its next word, is presented as it is (30_encoding.md R63). -/
theorem withFetchWord_toNat (s : State) (nbits : Nat) (w : Byte) : s.withFetchWord nbits w.toNat = s.present w := by
  rw [State.withFetchWord, BitVec.ofNat_toNat, BitVec.setWidth_eq]

/-- The step of a word presented next runs the operation of that word; the words that waited wait on (00_scope.md R7). -/
theorem step_present {w : Byte} {i : Instr} (s : State) (hdec : decode w = .ok i) :
    step (s.present w) = exec i { s with trace := [] } :=
  stepRunsPresentedWord (s.present w) _ s.inbox i (s.present_inbox w) hdec (issueError_issuerOf hdec)

/-- Settles O8: a row's word decodes to the row's operation, and its issuer may present it. -/
theorem fetchWordRunsRow : Obligations.FetchWordRunsRow := by
  intro s i nbits
  rw [withFetchWord_toNat]
  exact step_present s (decode_encode i)

end Sys2Proof.Machine

/-! PROOFS. What each operation answers, and what it leaves in the registers of a channel; which operation may write
which register (10_state.md R30). -/

namespace Sys2Proof.Machine

/-! The answer of each operation, one equivalence per form of `exec`'s arms. -/

section Answers

variable {s t : State}

theorem onChannel_eq_next {c : Chan} {f : State → State} :
    onChannel c f s = .next t ↔ channelExists s.cfg c = true ∧ t = f s := by
  unfold onChannel
  split
  next h => simp [h, eq_comm]
  next h => simp [h]

@[simp] theorem exec_debPoll_eq_next {b : Button} {l : Bool} :
    exec (.debPoll b l) s = .next t ↔ t = pollButton b l s := by
  simp [exec, execDebPoll, eq_comm]

@[simp] theorem exec_dutyInc_eq_next : exec .dutyInc s = .next t ↔ t = increaseDuty s := by
  simp [exec, execDutyInc, eq_comm]

@[simp] theorem exec_dutyDec_eq_next : exec .dutyDec s = .next t ↔ t = decreaseDuty s := by
  simp [exec, execDutyDec, eq_comm]

@[simp] theorem exec_dirToggle_eq_next : exec .dirToggle s = .next t ↔ t = toggleDir s := by
  simp [exec, execDirToggle, eq_comm]

@[simp] theorem exec_pwmInit_eq_next {c : Chan} :
    exec (.pwmInit c) s = .next t ↔ channelExists s.cfg c = true ∧ t = initPwm c s :=
  onChannel_eq_next

@[simp] theorem exec_pwmApply_eq_next {c : Chan} :
    exec (.pwmApply c) s = .next t ↔ channelExists s.cfg c = true ∧ t = applyPwm c s :=
  onChannel_eq_next

@[simp] theorem exec_dirApply_eq_next {c : Chan} :
    exec (.dirApply c) s = .next t ↔ channelExists s.cfg c = true ∧ t = applyDir c s :=
  onChannel_eq_next

@[simp] theorem exec_tmrStart_eq_next : exec .tmrStart s = .next t ↔ t = startTimer s := by
  simp [exec, execTmrStart, eq_comm]

@[simp] theorem exec_renderReq_eq_next : exec .renderReq s = .next t ↔ t = requestRender s := by
  simp [exec, execRenderReq, eq_comm]

@[simp] theorem exec_pass_eq_next {st : Stimulus} :
    exec (.pass st) s = .next t ↔ s.resetSeen = true ∧ s.fault = faultNone ∧ t = runPass st s :=
  execPass_eq_next st s t

@[simp] theorem exec_cfgCheck_eq_next : exec .cfgCheck s = .next t ↔ t = checkConfig s := by
  simp [exec, execCfgCheck, eq_comm]

end Answers

/-- The state a `RESET` answers, whatever the configuration (70_reset_and_hazards.md R113). -/
def resetResult (s : State) : State :=
  let checked := checkConfig ((s.markReset).setPhase .init)
  if checked.fault = faultNone then initBlock checked else checked.forgetInternals

@[simp] theorem exec_reset_eq_next {s t : State} : exec .reset s = .next t ↔ t = resetResult s := by
  have h : exec .reset s = .next (resetResult s) := by
    simp only [exec, execReset, resetResult]
    split <;> rfl
  rw [h, Host.Outcome.next.injEq, eq_comm]

theorem resetResult_of_valid (s : State) (hv : ConfigValid s.cfg) : resetResult s = { s with
    sr := 0b111
    duty := 0
    dir := .cw
    ch0 := resetChannel s.cfg 0
    ch1 := if channelExists s.cfg 1 then resetChannel s.cfg 1 else s.ch1
    tmrEn := true
    fault := faultNone
    faultInfo := none
    phase := .idle
    trace := s.trace ++ resetEvents s.cfg
    resetSeen := true } :=
  (exec_reset_eq_next.1 (execReset_of_valid s hv)).symm

theorem resetResult_of_error (s : State) (e : CfgError) (h : cfgError s.cfg = some e) :
    resetResult s = (takeConfigFault e ((s.markReset).setPhase .init)).forgetInternals :=
  (exec_reset_eq_next.1 (execReset_of_error s e h)).symm

@[simp] theorem resetResult_cfg (s : State) : (resetResult s).cfg = s.cfg := by
  cases h : cfgError s.cfg with
  | none => simp [resetResult_of_valid s h]
  | some e => simp [resetResult_of_error s e h]

@[simp] theorem resetResult_inbox (s : State) : (resetResult s).inbox = s.inbox := by
  cases h : cfgError s.cfg with
  | none => simp [resetResult_of_valid s h]
  | some e => simp [resetResult_of_error s e h]

@[simp] theorem resetResult_resetSeen (s : State) : (resetResult s).resetSeen = true := by
  cases h : cfgError s.cfg with
  | none => simp [resetResult_of_valid s h]
  | some e => simp [resetResult_of_error s e h]

/-- `RESET` records `CONFIG` exactly when the configuration is rejected (70_reset_and_hazards.md R114). -/
theorem resetResult_fault (s : State) :
    (resetResult s).fault = if ConfigValid s.cfg then faultNone else faultConfig := by
  by_cases hv : ConfigValid s.cfg
  · rw [resetResult_of_valid s hv, if_pos hv]
  · obtain ⟨e, he⟩ := Option.ne_none_iff_exists'.1 hv
    rw [resetResult_of_error s e he, if_neg hv]
    rfl

/-- The info of the fault after a `RESET` is the first check that fails, if one does (60_exceptions.md R100). -/
@[simp] theorem resetResult_faultInfo (s : State) : (resetResult s).faultInfo = cfgError s.cfg := by
  cases h : cfgError s.cfg with
  | none => simp [resetResult_of_valid s h]
  | some e => simp [resetResult_of_error s e h]

/-! The configuration check on its own. -/

@[simp] theorem checkConfig_cfg (s : State) : (checkConfig s).cfg = s.cfg := by
  cases h : cfgError s.cfg <;> simp [checkConfig, h]

@[simp] theorem checkConfig_inbox (s : State) : (checkConfig s).inbox = s.inbox := by
  cases h : cfgError s.cfg <;> simp [checkConfig, h]

@[simp] theorem checkConfig_resetSeen (s : State) : (checkConfig s).resetSeen = s.resetSeen := by
  cases h : cfgError s.cfg <;> simp [checkConfig, h]

/-- The info of the fault after a `CFG_CHECK` is the first check that fails, if one does (60_exceptions.md R100). -/
@[simp] theorem checkConfig_faultInfo (s : State) : (checkConfig s).faultInfo = cfgError s.cfg := by
  cases h : cfgError s.cfg <;> simp [checkConfig, h]

/-! The registers of a channel after each operation that writes them. -/

theorem commitPair_chan (c d : Chan) (cmp mode : Byte) (s : State) :
    (commitPair c cmp mode s).chan d = if d = c then { s.chan c with cmp := cmp, mode := mode } else s.chan d :=
  State.chan_setChan s c d _

theorem initPwm_chan (c d : Chan) (s : State) : (initPwm c s).chan d =
    if d = c then { s.chan c with cmp := 0, mode := clearDsub s.cfg (BitVec.ofNat 8 (modeInit s.cfg c)) }
    else s.chan d :=
  commitPair_chan c d _ _ s

theorem applyDir_chan (c d : Chan) (s : State) :
    (applyDir c s).chan d = if d = c then { s.chan c with pins := dirPins s.dir } else s.chan d :=
  State.chan_setChan s c d _

/-- `PWM_APPLY` writes `CMP` and `MODE` of its channel alone; a value that the spec does not state is free (log 10). -/
theorem applyPwm_chan (c d : Chan) (s : State) : (applyPwm c s).chan d =
    if d = c then { s.chan c with
      cmp := (newCmp s.cfg s.duty.toNat).getD (Config.freeCmp s.draws c)
      mode := (newMode s.cfg s.duty.toNat (s.chan c).mode).getD (Config.freeMode s.draws c) }
    else s.chan d := by
  simp only [applyPwm]
  split <;> exact commitPair_chan c d _ _ s

/-- `PWM_APPLY` of an 8-bit block keeps every mode register (42_pwm_translator.md R75). -/
theorem applyPwm_mode_of_eight (c d : Chan) (s : State) (h : s.cfg.res = 8) :
    ((applyPwm c s).chan d).mode = (s.chan d).mode := by
  rw [applyPwm_chan, newMode_eight s.cfg h]
  split
  next hd => rw [hd]; rfl
  next => rfl

@[simp] theorem applyPwm_cfg (c : Chan) (s : State) : (applyPwm c s).cfg = s.cfg := by
  obtain ⟨x, y, k, h⟩ := applyPwm_cases c s
  simp [h, commitPair_eq]

@[simp] theorem applyDir_cfg (c : Chan) (s : State) : (applyDir c s).cfg = s.cfg := by
  simp [applyDir_eq]

/-- What holds before a commit and is kept by each of its operations holds after it (44_control_pass.md R92). -/
theorem commitOutputs_induction {P : State → Prop} {s : State} (hs : P s) (hphase : ∀ t p, P t → P (t.setPhase p))
    (hpwm : ∀ t c, P t → P (applyPwm c t)) (hdir : ∀ t c, P t → P (applyDir c t))
    (hrender : ∀ t, P t → P (requestRender t)) : P (commitOutputs s) :=
  hrender _ (hphase _ _ (List.foldlRecOn _ _
    (List.foldlRecOn _ _ hs fun t ht c _ => hpwm _ c (hphase t _ ht)) fun t ht c _ => hdir _ c (hphase t _ ht)))

/-- A commit of an 8-bit block keeps every mode register: of its operations only `PWM_APPLY` could write one. -/
theorem commitOutputs_mode_of_eight (s : State) (d : Chan) (h : s.cfg.res = 8) :
    ((commitOutputs s).chan d).mode = (s.chan d).mode := by
  refine (commitOutputs_induction (P := fun t => t.cfg.res = 8 ∧ (t.chan d).mode = (s.chan d).mode)
    ⟨h, rfl⟩ (fun _ _ ht => ht) ?_ ?_ (fun _ ht => ht)).2
  · rintro t c ⟨h8, hmode⟩
    exact ⟨by rw [applyPwm_cfg, h8], by rw [applyPwm_mode_of_eight c d t h8, hmode]⟩
  · rintro t c ⟨h8, hmode⟩
    refine ⟨by rw [applyDir_cfg, h8], ?_⟩
    rw [applyDir_chan, ← hmode]
    split
    next hd => rw [hd]
    next => rfl

/-- A pass of an 8-bit block keeps every mode register (10_state.md R30). -/
theorem runPass_mode_of_eight (st : Stimulus) (s : State) (d : Chan) (h : s.cfg.res = 8) :
    ((runPass st s).chan d).mode = (s.chan d).mode := by
  rw [runPass_eq, State.setPhase_chan]
  split
  · exact commitOutputs_mode_of_eight (afterDuty st s) d h
  · rfl

/-! Who writes what. -/

section Writers

variable {i : Instr} {s t : State}

/-- Who may write the registers of channel d: `RESET`, a pass, or one of the three operations on channel d
(10_state.md R30). -/
theorem exec_chan_cases (hv : ConfigValid s.cfg) (hx : exec i s = .next t) (d : Chan) :
    t.chan d = s.chan d ∨ i = .reset ∨ (∃ st, i = .pass st) ∨ (i = .pwmInit d ∧ t = initPwm d s) ∨
      (i = .pwmApply d ∧ t = applyPwm d s) ∨ (i = .dirApply d ∧ t = applyDir d s) := by
  cases i with
  | reset | pass => simp
  | debPoll b l =>
    obtain rfl := exec_debPoll_eq_next.1 hx
    rw [pollButton_eq]
    exact .inl rfl
  | dutyInc =>
    obtain rfl := exec_dutyInc_eq_next.1 hx
    rw [increaseDuty_eq]
    split <;> exact .inl rfl
  | dutyDec =>
    obtain rfl := exec_dutyDec_eq_next.1 hx
    rw [decreaseDuty_eq]
    split <;> exact .inl rfl
  | dirToggle =>
    obtain rfl := exec_dirToggle_eq_next.1 hx
    exact .inl rfl
  | pwmInit c =>
    obtain ⟨-, rfl⟩ := exec_pwmInit_eq_next.1 hx
    by_cases hd : d = c
    · simp [hd]
    · exact .inl (by rw [initPwm_chan, if_neg hd])
  | pwmApply c =>
    obtain ⟨-, rfl⟩ := exec_pwmApply_eq_next.1 hx
    by_cases hd : d = c
    · simp [hd]
    · exact .inl (by rw [applyPwm_chan, if_neg hd])
  | dirApply c =>
    obtain ⟨-, rfl⟩ := exec_dirApply_eq_next.1 hx
    by_cases hd : d = c
    · simp [hd]
    · exact .inl (by rw [applyDir_chan, if_neg hd])
  | tmrStart =>
    obtain rfl := exec_tmrStart_eq_next.1 hx
    exact .inl rfl
  | renderReq =>
    obtain rfl := exec_renderReq_eq_next.1 hx
    exact .inl rfl
  | cfgCheck =>
    obtain rfl := exec_cfgCheck_eq_next.1 hx
    rw [checkConfig_of_valid s hv]
    exact .inl rfl

/-- Who may write `CMP[d]` (10_state.md R30). -/
theorem exec_writes_cmp (hv : ConfigValid s.cfg) (hx : exec i s = .next t) (d : Chan)
    (hne : (t.chan d).cmp ≠ (s.chan d).cmp) :
    i = .reset ∨ (∃ st, i = .pass st) ∨ i = .pwmInit d ∨ i = .pwmApply d := by
  rcases exec_chan_cases hv hx d with h | h | h | ⟨h, -⟩ | ⟨h, -⟩ | ⟨-, ht⟩
  · exact absurd (congrArg Channel.cmp h) hne
  · exact .inl h
  · exact .inr (.inl h)
  · exact .inr (.inr (.inl h))
  · exact .inr (.inr (.inr h))
  · exact absurd (by rw [ht, applyDir_chan, if_pos rfl]) hne

/-- Who may write `MODE[d]`; `PWM_APPLY` and a pass only in a 10-bit block (10_state.md R30). -/
theorem exec_writes_mode (hv : ConfigValid s.cfg) (hx : exec i s = .next t) (d : Chan)
    (hne : (t.chan d).mode ≠ (s.chan d).mode) :
    i = .reset ∨ i = .pwmInit d ∨ (s.cfg.res = 10 ∧ ((∃ st, i = .pass st) ∨ i = .pwmApply d)) := by
  obtain ⟨-, hres, -⟩ := (configValid_iff s.cfg).1 hv
  rcases exec_chan_cases hv hx d with h | h | ⟨st, rfl⟩ | ⟨h, -⟩ | ⟨h, rfl⟩ | ⟨-, ht⟩
  · exact absurd (congrArg Channel.mode h) hne
  · exact .inl h
  · obtain ⟨-, -, rfl⟩ := exec_pass_eq_next.1 hx
    exact .inr (.inr ⟨hres.resolve_left fun h8 => hne (runPass_mode_of_eight st s d h8), .inl ⟨st, rfl⟩⟩)
  · exact .inr (.inl h)
  · exact .inr (.inr ⟨hres.resolve_left fun h8 => hne (applyPwm_mode_of_eight d d s h8), .inr h⟩)
  · exact absurd (by rw [ht, applyDir_chan, if_pos rfl]) hne

/-- Who may write `PINS[d]` (10_state.md R30). -/
theorem exec_writes_pins (hv : ConfigValid s.cfg) (hx : exec i s = .next t) (d : Chan)
    (hne : (t.chan d).pins ≠ (s.chan d).pins) : i = .reset ∨ (∃ st, i = .pass st) ∨ i = .dirApply d := by
  rcases exec_chan_cases hv hx d with h | h | h | ⟨-, ht⟩ | ⟨-, ht⟩ | ⟨h, -⟩
  · exact absurd (congrArg Channel.pins h) hne
  · exact .inl h
  · exact .inr (.inl h)
  · exact absurd (by rw [ht, initPwm_chan, if_pos rfl]) hne
  · exact absurd (by rw [ht, applyPwm_chan, if_pos rfl]) hne
  · exact .inr (.inr h)

/-- What an operation other than `RESET` and `CFG_CHECK` leaves as it was, and which operations may write the other
registers that are no channel's (10_state.md R30). -/
structure AccessFrame (i : Instr) (s t : State) : Prop where
  cfg : t.cfg = s.cfg
  inbox : t.inbox = s.inbox
  resetSeen : t.resetSeen = s.resetSeen
  fault : t.fault = s.fault
  faultInfo : t.faultInfo = s.faultInfo
  sr : t.sr ≠ s.sr → (∃ st, i = .pass st) ∨ ∃ b l, i = .debPoll b l
  duty : t.duty ≠ s.duty → (∃ st, i = .pass st) ∨ i = .dutyInc ∨ i = .dutyDec
  dir : t.dir ≠ s.dir → (∃ st, i = .pass st) ∨ i = .dirToggle
  tmrEn : t.tmrEn ≠ s.tmrEn → i = .tmrStart
  ev : t.ev ≠ s.ev → (∃ st, i = .pass st) ∨ ∃ b l, i = .debPoll b l
  chg : t.chg ≠ s.chg → (∃ st, i = .pass st) ∨ i = .dutyInc ∨ i = .dutyDec ∨ i = .dirToggle
  phase : t.phase ≠ s.phase → ∃ st, i = .pass st

/-- Every operation keeps to the access table, whatever the configuration. -/
theorem exec_accessFrame (hr : i ≠ .reset) (hc : i ≠ .cfgCheck) (hx : exec i s = .next t) : AccessFrame i s t := by
  cases i with
  | reset | cfgCheck => contradiction
  | debPoll b l =>
    obtain rfl := exec_debPoll_eq_next.1 hx
    constructor <;> simp [pollButton_eq]
  | dutyInc =>
    obtain rfl := exec_dutyInc_eq_next.1 hx
    rw [increaseDuty_eq]
    split <;> constructor <;> simp
  | dutyDec =>
    obtain rfl := exec_dutyDec_eq_next.1 hx
    rw [decreaseDuty_eq]
    split <;> constructor <;> simp
  | dirToggle =>
    obtain rfl := exec_dirToggle_eq_next.1 hx
    constructor <;> simp [toggleDir_eq]
  | pwmInit c =>
    obtain ⟨-, rfl⟩ := exec_pwmInit_eq_next.1 hx
    constructor <;> simp [initPwm_eq, commitPair_eq]
  | pwmApply c =>
    obtain ⟨-, rfl⟩ := exec_pwmApply_eq_next.1 hx
    obtain ⟨x, y, k, h⟩ := applyPwm_cases c s
    constructor <;> simp [h, commitPair_eq]
  | dirApply c =>
    obtain ⟨-, rfl⟩ := exec_dirApply_eq_next.1 hx
    constructor <;> simp [applyDir_eq]
  | tmrStart =>
    obtain rfl := exec_tmrStart_eq_next.1 hx
    constructor <;> simp [startTimer_eq]
  | renderReq =>
    obtain rfl := exec_renderReq_eq_next.1 hx
    constructor <;> simp [requestRender_eq]
  | pass st =>
    obtain ⟨-, -, rfl⟩ := exec_pass_eq_next.1 hx
    obtain ⟨c0, c1, k, ev, -, h⟩ := runPass_frame st s
    constructor <;> simp [h, afterDuty]

/-- Who may write the registers that are no channel's under a valid configuration (10_state.md R30). -/
theorem exec_writes_scalars (hv : ConfigValid s.cfg) (hx : exec i s = .next t) :
    (t.sr ≠ s.sr → i = .reset ∨ (∃ st, i = .pass st) ∨ ∃ b l, i = .debPoll b l) ∧
      (t.duty ≠ s.duty → i = .reset ∨ (∃ st, i = .pass st) ∨ i = .dutyInc ∨ i = .dutyDec) ∧
      (t.dir ≠ s.dir → i = .reset ∨ (∃ st, i = .pass st) ∨ i = .dirToggle) ∧
      (t.tmrEn ≠ s.tmrEn → i = .reset ∨ i = .tmrStart) ∧
      (t.fault ≠ s.fault → i = .reset ∨ i = .cfgCheck) ∧
      (t.ev ≠ s.ev → (∃ st, i = .pass st) ∨ ∃ b l, i = .debPoll b l) ∧
      (t.chg ≠ s.chg → (∃ st, i = .pass st) ∨ i = .dutyInc ∨ i = .dutyDec ∨ i = .dirToggle) := by
  by_cases hr : i = .reset
  · subst hr
    obtain rfl := exec_reset_eq_next.1 hx
    simp [resetResult_of_valid s hv]
  by_cases hc : i = .cfgCheck
  · subst hc
    obtain rfl := exec_cfgCheck_eq_next.1 hx
    simp [checkConfig_of_valid s hv]
  have hf := exec_accessFrame hr hc hx
  exact ⟨fun h => .inr (hf.sr h), fun h => .inr (hf.duty h), fun h => .inr (hf.dir h), fun h => .inr (hf.tmrEn h),
    fun h => absurd hf.fault h, hf.ev, hf.chg⟩

end Writers

/-- Settles O49: each operation's own description names the registers it writes. -/
theorem writersOfEachRegister : Obligations.WritersOfEachRegister := by
  intro i s t hv hx
  obtain ⟨hsr, hduty, hdir, htmr, hfault, hev, hchg⟩ := exec_writes_scalars hv hx
  exact ⟨hsr, hduty, hdir, exec_writes_cmp hv hx, exec_writes_mode hv hx, exec_writes_pins hv hx, htmr, hfault, hev,
    hchg⟩

/-- Settles O28: of the two writers of `TMR_EN`, `RESET` ends with `TMR_START` (70_reset_and_hazards.md R113), and
`TMR_START` sets it. -/
theorem timerIsNeverStopped : Obligations.TimerIsNeverStopped := by
  intro i s t hv hon hx
  obtain ⟨-, -, -, htmr, -⟩ := exec_writes_scalars hv hx
  by_contra hoff
  rcases htmr (by simpa [hon] using hoff) with rfl | rfl
  · obtain rfl := exec_reset_eq_next.1 hx
    simp [resetResult_of_valid s hv] at hoff
  · obtain rfl := exec_tmrStart_eq_next.1 hx
    simp [startTimer_eq] at hoff

/-- The configuration and the words that wait are no operation's to write (10_state.md R29; log 2). -/
theorem exec_cfg_inbox {i : Instr} {s t : State} (hx : exec i s = .next t) : t.cfg = s.cfg ∧ t.inbox = s.inbox := by
  by_cases hr : i = .reset
  · subst hr
    obtain rfl := exec_reset_eq_next.1 hx
    simp
  by_cases hc : i = .cfgCheck
  · subst hc
    obtain rfl := exec_cfgCheck_eq_next.1 hx
    simp
  have hf := exec_accessFrame hr hc hx
  exact ⟨hf.cfg, hf.inbox⟩

/-- What the start of a step and every operation keep, every step keeps. -/
theorem step_keeps {P : State → Prop} {s t : State} (hbegin : ∀ s rest, P s → P (s.beginStep rest))
    (hexec : ∀ i s t, P s → exec i s = .next t → P t) (hs : P s) (hstep : step s = .next t) : P t := by
  rcases step_next_cases s t hstep with ⟨-, rfl⟩ | ⟨_, rest, i, -, -, -, hx⟩
  · exact hbegin s [] hs
  · exact hexec i _ t (hbegin s rest hs) hx

/-- Settles O50: neither the start of a step nor an operation writes the configuration. -/
theorem configurationIsFixed : Obligations.ConfigurationIsFixed := by
  intro s t
  exact step_keeps (P := fun u => u.cfg = s.cfg) (fun _ _ hu => hu)
    (fun _ _ _ hu hx => (exec_cfg_inbox hx).1.trans hu) rfl

/-- Settles O48: the two writers of `FAULT` check the same configuration again. -/
theorem configFaultPersists : Obligations.ConfigFaultPersists := by
  intro i s t hv hfault hx
  by_cases hr : i = .reset
  · subst hr
    obtain rfl := exec_reset_eq_next.1 hx
    rw [resetResult_fault, if_neg hv]
  by_cases hc : i = .cfgCheck
  · subst hc
    obtain rfl := exec_cfgCheck_eq_next.1 hx
    rw [checkConfig_fault, if_neg hv]
  rw [(exec_accessFrame hr hc hx).fault, hfault]

/-- Settles O56: a check that passes writes `FAULT` and its info; one that fails takes the configuration fault. -/
theorem cfgCheckKeepsOtherRegisters : Obligations.CfgCheckKeepsOtherRegisters := by
  intro s
  refine ⟨checkConfig s, exec_cfgCheck_eq_next.2 rfl, ?_⟩
  cases h : cfgError s.cfg with
  | none =>
    rw [checkConfig_of_valid s h]
    exact ⟨rfl, fun _ _ => rfl, fun _ => rfl⟩
  | some e =>
    rw [checkConfig_of_error s e h]
    refine ⟨?_, fun c hc => (takeConfigFault_spec e s).2 c ?_, fun hv => absurd (h.symm.trans hv) nofun⟩
    · apply State.eq_of_fields <;> simp
    · simpa [mem_channels] using hc

end Sys2Proof.Machine

/-! PROOFS. The invariants of every step: a block in normal operation with legal registers or in the configuration fault
(10_state.md R27, R31), and at pass boundaries outputs that show `DIR` and `DUTY` (44_control_pass.md R98). -/

namespace Sys2Proof.Machine

/-! What a commit leaves in a channel. -/

/-- A 10-bit number is its upper eight bits before its lower two (20_memory.md R35). -/
theorem split_ten_bits (p : Nat) (h : p < 1024) : (BitVec.ofNat 8 (p >>> 2) ++ BitVec.ofNat 2 p).toNat = p := by
  rw [BitVec.toNat_append, BitVec.toNat_ofNat, BitVec.toNat_ofNat,
    ← Nat.shiftLeft_add_eq_or_of_lt (Nat.mod_lt _ (by decide)), Nat.shiftRight_eq_div_pow, Nat.shiftLeft_eq]
  omega

section Committed

variable {s : State} {c : Chan}

/-- The registers a commit leaves read as the PWM value of `DUTY` and the pattern of `DIR` (44_control_pass.md R98). -/
theorem committed_of_chan_eq {t : State} (hv : ConfigValid s.cfg) (hd : s.duty.toNat ≤ 100) (hcfg : t.cfg = s.cfg)
    (hduty : t.duty = s.duty) (hdir : t.dir = s.dir) (hchan : t.chan c = committedChannel s c) : Committed t c := by
  obtain ⟨-, -, h10, h8, hk, -⟩ := (configValid_iff s.cfg).1 hv
  simp only [Committed, hcfg, hduty, hdir, hchan]
  refine ⟨rfl, fun hr => ?_, fun hr => ?_⟩
  · have hle := ten_bit_value_le s.duty.toNat s.cfg.period hd (h10 hr)
    simp only [pairValue, committedChannel, newCmp_ten s.cfg hr (h10 hr) _ hd, newMode_ten s.cfg hr hk, Option.getD_some,
      dsub, clearDsub, dsubMask, dsub_insert _ hk]
    exact split_ten_bits _ (by omega)
  · have hle := eight_bit_value_le s.duty.toNat s.cfg.period hd (h8 hr)
    rw [committedChannel, newCmp_eight s.cfg hr (h8 hr) _ hd, Option.getD_some, BitVec.toNat_ofNat,
      Nat.mod_eq_of_lt (by omega)]

/-- A commit keeps the mode bits outside the duty sub-field, and in an 8-bit block the whole register (20_memory.md R42). -/
theorem committedChannel_sound (hv : ConfigValid s.cfg) (hs : ChannelSound s.cfg c (s.chan c)) :
    ChannelSound s.cfg c (committedChannel s c) := by
  obtain ⟨-, hmode, hdsub⟩ := hs
  obtain ⟨-, hres, -, -, hk, -⟩ := (configValid_iff s.cfg).1 hv
  refine ⟨dirPins_legal s.dir, ?_⟩
  rcases hres with hr | hr
  · simpa [committedChannel, newMode_eight s.cfg hr] using ⟨hmode, hdsub⟩
  · refine ⟨?_, fun h8 => absurd (h8.symm.trans hr) (by decide)⟩
    rw [← hmode, committedChannel, newMode_ten s.cfg hr hk]
    exact clear_insert _ hk _ _

end Committed

/-- Channel c's registers after a pass: those of a commit where it runs and the channel exists, as before elsewhere. -/
theorem runPass_chan (st : Stimulus) (s : State) (c : Chan) (hv : ConfigValid s.cfg) (hd : DutyLegal s.duty) :
    (runPass st s).chan c = if dutyChanges (firedVector st s) s.duty then channelAfterCommit (afterDuty st s) c
      else s.chan c := by
  cases hc : dutyChanges (firedVector st s) s.duty with
  | true =>
    rw [runPass_of_chg st s hv hd hc]
    match c with
    | 0 => rfl
    | 1 => rfl
  | false =>
    rw [runPass_of_not_chg st s hc]
    rfl

theorem runPass_duty (st : Stimulus) (s : State) : (runPass st s).duty = dutyAfter (firedVector st s) s.duty := by
  obtain ⟨_, _, _, _, -, h⟩ := runPass_frame st s
  rw [h]
  rfl

theorem runPass_dir (st : Stimulus) (s : State) :
    (runPass st s).dir = if firedBy st s .dirToggle then Direction.flip s.dir else s.dir := by
  obtain ⟨_, _, _, _, -, h⟩ := runPass_frame st s
  rw [h]
  rfl

theorem increaseDuty_duty (s : State) : (increaseDuty s).duty = dutyAfterInc true s.duty := by
  rw [increaseDuty_eq]
  simp only [dutyAfterInc, Bool.true_and, decide_eq_true_eq]
  split <;> rfl

theorem decreaseDuty_duty (s : State) : (decreaseDuty s).duty = dutyAfterDec true s.duty := by
  rw [decreaseDuty_eq]
  simp only [dutyAfterDec, Bool.true_and, decide_eq_true_eq]
  split <;> rfl

/-- Where no operation of the duty phase reports a change, the duty is as before (41_duty_controller.md R72). -/
theorem dutyAfter_of_not_dutyChanges {ev : BitVec 3} {d : BitVec 7} (h : dutyChanges ev d = false) :
    dutyAfter ev d = d ∧ buttonBit ev .dirToggle = false := by
  simp only [dutyChanges, Bool.or_eq_false_iff] at h
  obtain ⟨⟨hinc, hdec⟩, htoggle⟩ := h
  have hd : dutyAfterInc (buttonBit ev .speedUp) d = d := by simp only [dutyAfterInc, hinc, Bool.false_eq_true, if_false]
  rw [hd] at hdec
  exact ⟨by simp only [dutyAfter, dutyAfterDec, hd, hdec, Bool.false_eq_true, if_false], htoggle⟩

/-! Normal operation. -/

section Operating

variable {i : Instr} {s t : State}

/-- Every channel of the block takes its reset registers (70_reset_and_hazards.md R114). -/
theorem resetResult_chan {c : Chan} (hv : ConfigValid s.cfg) (hc : c ∈ channels s.cfg) :
    (resetResult s).chan c = resetChannel s.cfg c := by
  rw [resetResult_of_valid s hv]
  match c with
  | 0 => rfl
  | 1 =>
    rw [mem_channels] at hc
    simp [State.chan, hc]

/-- The registers that a `RESET` leaves are those of a block in normal operation (10_state.md R31). -/
theorem operating_resetResult (hv : ConfigValid s.cfg) : Operating (resetResult s) := by
  obtain ⟨-, -, -, -, hk, -⟩ := (configValid_iff s.cfg).1 hv
  have hsound : ∀ c ∈ channels s.cfg, ChannelSound s.cfg c ((resetResult s).chan c) := by
    intro c hc
    rw [resetResult_chan hv hc]
    exact ⟨.inl rfl, clearDsub_clearDsub _ _, fun _ => dsub_clearDsub _ hk _⟩
  have heq := resetResult_of_valid s hv
  have hduty : (resetResult s).duty = 0 := by rw [heq]
  exact ⟨by rw [heq], by rw [heq], by rwa [resetResult_cfg], by rw [hduty]; decide, by rw [heq], by rw [heq],
    by rwa [resetResult_cfg]⟩

/-- No operation but `RESET` leaves a legal duty: `DUTY_INC`, `DUTY_DEC` and the duty phase of a pass are its only other
writers (41_duty_controller.md R71). -/
theorem exec_dutyLegal (hr : i ≠ .reset) (hc : i ≠ .cfgCheck) (hd : DutyLegal s.duty) (hx : exec i s = .next t) :
    DutyLegal t.duty := by
  by_cases hne : t.duty = s.duty
  · rwa [hne]
  rcases (exec_accessFrame hr hc hx).duty hne with ⟨st, rfl⟩ | rfl | rfl
  · obtain ⟨-, -, rfl⟩ := exec_pass_eq_next.1 hx
    rw [runPass_duty]
    exact dutyAfter_legal _ _ hd
  · obtain rfl := exec_dutyInc_eq_next.1 hx
    rw [increaseDuty_duty]
    exact dutyAfterInc_legal _ _ hd
  · obtain rfl := exec_dutyDec_eq_next.1 hx
    rw [decreaseDuty_duty]
    exact dutyAfterDec_legal _ _ hd

/-- The writers of a channel's registers keep its pins legal and its mode bits those of `MODE_INIT` (43_direction_driver.md
R84, 10_state.md R21). -/
theorem exec_channelSound {c : Chan} (hr : i ≠ .reset) (hv : ConfigValid s.cfg) (hd : DutyLegal s.duty)
    (hs : ChannelSound s.cfg c (s.chan c)) (hx : exec i s = .next t) : ChannelSound s.cfg c (t.chan c) := by
  obtain ⟨hpins, hmode, hdsub⟩ := hs
  rcases exec_chan_cases hv hx c with h | h | ⟨st, rfl⟩ | ⟨-, rfl⟩ | ⟨-, rfl⟩ | ⟨-, rfl⟩
  · rw [h]
    exact ⟨hpins, hmode, hdsub⟩
  · exact absurd h hr
  · obtain ⟨-, -, rfl⟩ := exec_pass_eq_next.1 hx
    rw [runPass_chan st s c hv hd, channelAfterCommit]
    split_ifs
    · exact committedChannel_sound (s := afterDuty st s) hv ⟨hpins, hmode, hdsub⟩
    · exact ⟨hpins, hmode, hdsub⟩
    · exact ⟨hpins, hmode, hdsub⟩
  · obtain ⟨-, -, -, -, hk, -⟩ := (configValid_iff s.cfg).1 hv
    rw [initPwm_chan, if_pos rfl]
    exact ⟨hpins, clearDsub_clearDsub _ _, fun _ => dsub_clearDsub _ hk _⟩
  · rw [applyPwm_of_valid c s hv hd.1, commitPair_chan, if_pos rfl]
    exact ⟨hpins, (committedChannel_sound hv ⟨hpins, hmode, hdsub⟩).2⟩
  · rw [applyDir_chan, if_pos rfl]
    exact ⟨dirPins_legal _, hmode, hdsub⟩

/-- The sequencer is idle again after every operation (10_state.md R28). -/
theorem exec_phase (hr : i ≠ .reset) (hc : i ≠ .cfgCheck) (hp : s.phase = .idle) (hx : exec i s = .next t) :
    t.phase = .idle := by
  by_cases hne : t.phase = s.phase
  · rw [hne, hp]
  obtain ⟨st, rfl⟩ := (exec_accessFrame hr hc hx).phase hne
  obtain ⟨-, -, rfl⟩ := exec_pass_eq_next.1 hx
  rfl

/-- Normal operation is kept by every operation. -/
theorem exec_operating (hop : Operating s) (hx : exec i s = .next t) : Operating t := by
  obtain ⟨hfault, hinfo, hv, hduty, htmr, hphase, hchans⟩ := hop
  by_cases hr : i = .reset
  · subst hr
    obtain rfl := exec_reset_eq_next.1 hx
    exact operating_resetResult hv
  by_cases hc : i = .cfgCheck
  · subst hc
    obtain rfl := exec_cfgCheck_eq_next.1 hx
    rw [checkConfig_of_valid s hv]
    exact ⟨rfl, rfl, hv, hduty, htmr, hphase, hchans⟩
  have hf := exec_accessFrame hr hc hx
  refine ⟨hf.fault.trans hfault, hf.faultInfo.trans hinfo, by rwa [hf.cfg], exec_dutyLegal hr hc hduty hx,
    timerIsNeverStopped i s t hv htmr hx, exec_phase hr hc hphase hx, fun c hmem => ?_⟩
  rw [hf.cfg] at hmem ⊢
  exact exec_channelSound hr hv hduty (hchans c hmem) hx

/-- The configuration fault is kept by every operation. -/
theorem exec_configFaulted (hcf : ConfigFaulted s) (hx : exec i s = .next t) : ConfigFaulted t := by
  obtain ⟨hfault, hinfo, hv⟩ := hcf
  have hcfg := (exec_cfg_inbox hx).1
  refine ⟨configFaultPersists i s t hv hfault hx, ?_, by rwa [hcfg]⟩
  rw [hcfg]
  by_cases hr : i = .reset
  · subst hr
    obtain rfl := exec_reset_eq_next.1 hx
    exact resetResult_faultInfo s
  by_cases hc : i = .cfgCheck
  · subst hc
    obtain rfl := exec_cfgCheck_eq_next.1 hx
    exact checkConfig_faultInfo s
  rw [(exec_accessFrame hr hc hx).faultInfo, hinfo]

/-- A `RESET` that stops leaves the configuration fault (70_reset_and_hazards.md R114). -/
theorem configFaulted_resetResult (hv : ¬ConfigValid s.cfg) : ConfigFaulted (resetResult s) :=
  ⟨by rw [resetResult_fault, if_neg hv], by simp, by simpa using hv⟩

/-- A `RESET` leaves normal operation or the configuration fault, as the configuration is valid or not. -/
theorem resetResult_blockInv (s : State) : Operating (resetResult s) ∨ ConfigFaulted (resetResult s) := by
  by_cases hv : ConfigValid s.cfg
  · exact .inl (operating_resetResult hv)
  · exact .inr (configFaulted_resetResult hv)

/-- Only a `RESET` is a first `RESET` (10_state.md R32). -/
theorem exec_resetSeen (hr : i ≠ .reset) (hx : exec i s = .next t) : t.resetSeen = s.resetSeen := by
  by_cases hc : i = .cfgCheck
  · subst hc
    obtain rfl := exec_cfgCheck_eq_next.1 hx
    exact checkConfig_resetSeen s
  exact (exec_accessFrame hr hc hx).resetSeen

theorem exec_blockInv (hinv : BlockInv s) (hx : exec i s = .next t) : BlockInv t := by
  intro hseen
  by_cases hr : i = .reset
  · subst hr
    obtain rfl := exec_reset_eq_next.1 hx
    exact resetResult_blockInv s
  rw [exec_resetSeen hr hx] at hseen
  exact (hinv hseen).imp (exec_operating · hx) (exec_configFaulted · hx)

end Operating

/-- Settles O54: each of the two states a block can be in after its first `RESET` is kept by every operation. -/
theorem everyStepKeepsBlockInv : Obligations.EveryStepKeepsBlockInv := by
  intro s t
  exact step_keeps (fun _ _ h => h) (fun _ _ _ => exec_blockInv)

/-! The outputs at pass boundaries. -/

/-- A pass leaves every channel with the outputs of the duty and direction it leaves: it commits where it changes one of
them (44_control_pass.md R92, R98). -/
theorem runPass_committed {st : Stimulus} {s : State} {c : Chan} (hv : ConfigValid s.cfg) (hd : DutyLegal s.duty)
    (hc : channelExists s.cfg c = true) (hs : Committed s c) : Committed (runPass st s) c := by
  have hcfg : (runPass st s).cfg = s.cfg := by
    obtain ⟨_, _, _, _, -, h⟩ := runPass_frame st s
    rw [h]
    rfl
  have hchan := runPass_chan st s c hv hd
  cases hch : dutyChanges (firedVector st s) s.duty with
  | true =>
    have hex : channelExists (afterDuty st s).cfg c = true := hc
    rw [hch, if_pos rfl, channelAfterCommit, if_pos hex] at hchan
    exact committed_of_chan_eq (s := afterDuty st s) hv (dutyAfter_legal _ _ hd).1 hcfg (runPass_duty st s)
      (runPass_dir st s) hchan
  | false =>
    obtain ⟨hduty, htoggle⟩ := dutyAfter_of_not_dutyChanges hch
    rw [buttonBit_firedVector] at htoggle
    rw [hch, if_neg (by decide)] at hchan
    simpa only [Committed, hcfg, hchan, runPass_duty, runPass_dir, hduty, htoggle, Bool.false_eq_true, if_false] using hs

/-- A `RESET` leaves every channel with the outputs of duty 0 and CW (70_reset_and_hazards.md R114). -/
theorem resetResult_committed {s : State} {c : Chan} (hv : ConfigValid s.cfg) (hc : c ∈ channels s.cfg) :
    Committed (resetResult s) c := by
  obtain ⟨-, -, -, -, hk, -⟩ := (configValid_iff s.cfg).1 hv
  have hduty : (resetResult s).duty = 0 := by rw [resetResult_of_valid s hv]
  have hdir : (resetResult s).dir = .cw := by rw [resetResult_of_valid s hv]
  simp only [Committed, resetResult_chan hv hc, hduty, hdir, resetResult_cfg]
  refine ⟨rfl, fun _ => ?_, fun _ => ?_⟩
  · simp [pairValue, resetChannel, dsub_clearDsub _ hk]
  · simp [resetChannel]

/-- The operations the environment may present (30_encoding.md R63). -/
theorem reset_or_pass_of_environment {i : Instr} (h : issueError .environment i = none) :
    i = .reset ∨ ∃ st, i = .pass st := by
  cases i <;> simp [issueError, Instr.isStep] at h ⊢

/-- A `RESET` and a pass leave the outputs committed, once they are (44_control_pass.md R98). -/
theorem exec_outputsCommitted {i : Instr} {s t : State} (hi : i = .reset ∨ ∃ st, i = .pass st) (hinv : BlockInv s)
    (hout : OutputsCommitted s) (hx : exec i s = .next t) : OutputsCommitted t := by
  intro _ hfault c hc
  rw [(exec_cfg_inbox hx).1] at hc
  rcases hi with rfl | ⟨st, rfl⟩
  · obtain rfl := exec_reset_eq_next.1 hx
    have hv : ConfigValid s.cfg := by
      by_contra hv
      rw [resetResult_fault, if_neg hv] at hfault
      exact absurd hfault (by decide)
    exact resetResult_committed hv hc
  · obtain ⟨hseen, hnone, rfl⟩ := exec_pass_eq_next.1 hx
    rcases hinv hseen with ⟨-, -, hv, hduty, -⟩ | ⟨hcf, -⟩
    · exact runPass_committed hv hduty ((mem_channels _ _).1 hc) (hout hseen hnone c hc)
    · exact absurd (hnone.symm.trans hcf) (by decide)

/-- Settles O55: the environment presents `RESET` and `PASS` alone, and each of them ends with committed outputs. -/
theorem everyStepKeepsBoundaryInv : Obligations.EveryStepKeepsBoundaryInv := by
  rintro s t ⟨hinv, henv, hout⟩ hstep
  refine ⟨everyStepKeepsBlockInv s t hinv hstep, ?_⟩
  rcases step_next_cases s t hstep with ⟨-, rfl⟩ | ⟨r, rest, i, hin, -, hiss, hx⟩
  · exact ⟨by simp [EnvironmentOnly], hout⟩
  rw [EnvironmentOnly, hin, List.forall_mem_cons] at henv
  obtain ⟨hr, hrest⟩ := henv
  rw [hr] at hiss
  refine ⟨?_, exec_outputsCommitted (s := s.beginStep rest) (reset_or_pass_of_environment hiss) hinv hout hx⟩
  rw [EnvironmentOnly, (exec_cfg_inbox hx).2]
  exact hrest

/-- Settles O53: each clause is read off the reset state. -/
theorem resetSatisfiesInvariants : Obligations.ResetSatisfiesInvariants :=
  have hinv : BlockInv State.reset := by decide
  have hout : OutputsCommitted State.reset := by decide
  ⟨hinv, hinv, by simp [EnvironmentOnly, State.reset], hout⟩

end Sys2Proof.Machine

/-! PROOFS. What no operation reads: the transients before a pass, the state the model adds (10_state.md R33) and the place
of a channel the block has not (30_encoding.md R52). -/

namespace Sys2Proof.Machine

/-! The transients. -/

/-- Settles O39: the poll and duty phases leave the same state whatever `EV`, `CHG` and `PHASE` they start from. -/
theorem passIgnoresTransients : Obligations.PassIgnoresTransients := by
  intro st s ev chg phase
  have hrun : runPass st { s with ev := ev, chg := chg, phase := phase } = runPass st s := by
    rw [runPass_eq, runPass_eq]
    rfl
  change execPass st _ = execPass st s
  simp only [execPass, hrun]

/-! The state the model adds: the info of a fault, the words that wait and the count of draws. -/

/-- A state with other values in the fields the model adds (10_state.md R33). -/
def State.withAdded (s : State) (info : Option CfgError) (inbox : List Request) (draws : Nat) : State :=
  { s with faultInfo := info, inbox := inbox, draws := draws }

section Added

variable (info : Option CfgError) (inbox : List Request) (draws : Nat)

theorem pollButton_withAdded (b : Button) (l : Bool) (s : State) :
    pollButton b l (s.withAdded info inbox draws) = (pollButton b l s).withAdded info inbox draws := by
  rw [pollButton_eq, pollButton_eq]
  rfl

theorem increaseDuty_withAdded (s : State) :
    increaseDuty (s.withAdded info inbox draws) = (increaseDuty s).withAdded info inbox draws := by
  rw [increaseDuty_eq, increaseDuty_eq, apply_ite (State.withAdded · info inbox draws)]
  rfl

theorem decreaseDuty_withAdded (s : State) :
    decreaseDuty (s.withAdded info inbox draws) = (decreaseDuty s).withAdded info inbox draws := by
  rw [decreaseDuty_eq, decreaseDuty_eq, apply_ite (State.withAdded · info inbox draws)]
  rfl

theorem commitPair_withAdded (c : Chan) (cmp mode : Byte) (s : State) :
    commitPair c cmp mode (s.withAdded info inbox draws) = (commitPair c cmp mode s).withAdded info inbox draws :=
  match c with
  | 0 => rfl
  | 1 => rfl

theorem applyDir_withAdded (c : Chan) (s : State) :
    applyDir c (s.withAdded info inbox draws) = (applyDir c s).withAdded info inbox draws :=
  match c with
  | 0 => rfl
  | 1 => rfl

/-- `PWM_APPLY` draws no free value where the spec states both values (42_pwm_translator.md R79). -/
theorem applyPwm_withAdded (c : Chan) {s : State} (hv : ConfigValid s.cfg) (hd : DutyLegal s.duty) :
    applyPwm c (s.withAdded info inbox draws) = (applyPwm c s).withAdded info inbox draws := by
  rw [applyPwm_of_valid c s hv hd.1, applyPwm_of_valid c (s.withAdded info inbox draws) hv hd.1,
    ← commitPair_withAdded]
  rfl

theorem runPass_withAdded (st : Stimulus) {s : State} (hv : ConfigValid s.cfg) (hd : DutyLegal s.duty) :
    runPass st (s.withAdded info inbox draws) = (runPass st s).withAdded info inbox draws := by
  cases hc : dutyChanges (firedVector st s) s.duty with
  | true =>
    rw [runPass_of_chg st s hv hd hc, runPass_of_chg st (s.withAdded info inbox draws) hv hd hc]
    rfl
  | false =>
    rw [runPass_of_not_chg st s hc, runPass_of_not_chg st (s.withAdded info inbox draws) hc]
    rfl

/-- `RESET` and `CFG_CHECK` leave no info of a fault (log 9); every other operation carries the added state along. -/
theorem exec_withAdded {i : Instr} {s t : State} (hv : ConfigValid s.cfg) (hd : DutyLegal s.duty)
    (hx : exec i s = .next t) : exec i (s.withAdded info inbox draws) =
      .next (t.withAdded (if i = .reset ∨ i = .cfgCheck then none else info) inbox draws) := by
  cases i with
  | reset =>
    obtain rfl := exec_reset_eq_next.1 hx
    rw [exec_reset_eq_next, resetResult_of_valid s hv, resetResult_of_valid (s.withAdded info inbox draws) hv]
    rfl
  | cfgCheck =>
    obtain rfl := exec_cfgCheck_eq_next.1 hx
    rw [exec_cfgCheck_eq_next, checkConfig_of_valid s hv, checkConfig_of_valid (s.withAdded info inbox draws) hv]
    rfl
  | debPoll b l =>
    obtain rfl := exec_debPoll_eq_next.1 hx
    exact exec_debPoll_eq_next.2 (pollButton_withAdded info inbox draws b l s).symm
  | dutyInc =>
    obtain rfl := exec_dutyInc_eq_next.1 hx
    exact exec_dutyInc_eq_next.2 (increaseDuty_withAdded info inbox draws s).symm
  | dutyDec =>
    obtain rfl := exec_dutyDec_eq_next.1 hx
    exact exec_dutyDec_eq_next.2 (decreaseDuty_withAdded info inbox draws s).symm
  | dirToggle =>
    obtain rfl := exec_dirToggle_eq_next.1 hx
    exact exec_dirToggle_eq_next.2 rfl
  | pwmInit c =>
    obtain ⟨hex, rfl⟩ := exec_pwmInit_eq_next.1 hx
    exact exec_pwmInit_eq_next.2 ⟨hex, (commitPair_withAdded info inbox draws c _ _ s).symm⟩
  | pwmApply c =>
    obtain ⟨hex, rfl⟩ := exec_pwmApply_eq_next.1 hx
    exact exec_pwmApply_eq_next.2 ⟨hex, (applyPwm_withAdded info inbox draws c hv hd).symm⟩
  | dirApply c =>
    obtain ⟨hex, rfl⟩ := exec_dirApply_eq_next.1 hx
    exact exec_dirApply_eq_next.2 ⟨hex, (applyDir_withAdded info inbox draws c s).symm⟩
  | tmrStart =>
    obtain rfl := exec_tmrStart_eq_next.1 hx
    exact exec_tmrStart_eq_next.2 rfl
  | renderReq =>
    obtain rfl := exec_renderReq_eq_next.1 hx
    exact exec_renderReq_eq_next.2 rfl
  | pass st =>
    obtain ⟨hseen, hnone, rfl⟩ := exec_pass_eq_next.1 hx
    exact exec_pass_eq_next.2 ⟨hseen, hnone, (runPass_withAdded info inbox draws st hv hd).symm⟩

end Added

/-- Settles O58: `exec_withAdded`, the added fields written out. -/
theorem operationsIgnoreAddedState : Obligations.OperationsIgnoreAddedState :=
  fun _ _ _ info inbox draws hv hd hx => exec_withAdded info inbox draws hv hd hx

/-! The place of a channel the block has not (log 14). -/

section AbsentChannel

variable {s : State} (ch : Channel)

theorem channelExists_one_of_nCh_one {cfg : Config} (hn : cfg.nCh = 1) : channelExists cfg 1 = false := by
  simp [channelExists, hn]

/-- An operation on a channel of a block of one channel is an operation on channel 0. -/
theorem eq_zero_of_channelExists {cfg : Config} {c : Chan} (hn : cfg.nCh = 1) (h : channelExists cfg c = true) :
    c = 0 := by
  rw [← mem_channels, channels_one cfg hn] at h
  simpa using h

theorem pollButton_setChan_one (b : Button) (l : Bool) :
    pollButton b l (s.setChan 1 ch) = (pollButton b l s).setChan 1 ch := by
  rw [pollButton_eq, pollButton_eq]
  rfl

theorem increaseDuty_setChan_one : increaseDuty (s.setChan 1 ch) = (increaseDuty s).setChan 1 ch := by
  rw [increaseDuty_eq, increaseDuty_eq, apply_ite (State.setChan · 1 ch)]
  rfl

theorem decreaseDuty_setChan_one : decreaseDuty (s.setChan 1 ch) = (decreaseDuty s).setChan 1 ch := by
  rw [decreaseDuty_eq, decreaseDuty_eq, apply_ite (State.setChan · 1 ch)]
  rfl

theorem applyPwm_zero_setChan_one : applyPwm 0 (s.setChan 1 ch) = (applyPwm 0 s).setChan 1 ch := by
  simp only [applyPwm]
  rw [apply_ite (State.setChan · 1 ch)]
  rfl

/-- A commit of a block of one channel, its operations one after another. -/
theorem commitOutputs_one (hn : s.cfg.nCh = 1) : commitOutputs s =
    requestRender ((applyDir 0 ((applyPwm 0 (s.setPhase (.commitPwm 0))).setPhase (.commitDir 0))).setPhase
      .commitRender) := by
  simp only [commitOutputs, channels_one s.cfg hn, List.foldl_cons, List.foldl_nil]

theorem commitOutputs_setChan_one (hn : s.cfg.nCh = 1) :
    commitOutputs (s.setChan 1 ch) = (commitOutputs s).setChan 1 ch := by
  have hpwm := applyPwm_zero_setChan_one (s := s.setPhase (.commitPwm 0)) ch
  rw [commitOutputs_one hn, commitOutputs_one (s := s.setChan 1 ch) hn]
  change requestRender ((applyDir 0 ((applyPwm 0 ((s.setPhase _).setChan 1 ch)).setPhase _)).setPhase _) = _
  rw [hpwm]
  rfl

theorem runPass_setChan_one (st : Stimulus) (hn : s.cfg.nCh = 1) :
    runPass st (s.setChan 1 ch) = (runPass st s).setChan 1 ch := by
  have hcommit := commitOutputs_setChan_one (s := afterDuty st s) ch hn
  have hduty : afterDuty st (s.setChan 1 ch) = (afterDuty st s).setChan 1 ch := rfl
  rw [runPass_eq, runPass_eq, hduty, hcommit, State.setChan_chg]
  split <;> rfl

theorem takeConfigFault_setChan_one (e : CfgError) (hn : s.cfg.nCh = 1) :
    takeConfigFault e (s.setChan 1 ch) = (takeConfigFault e s).setChan 1 ch := by
  have h0 : channelExists s.cfg 0 = true := by simp [channelExists, hn]
  simp [takeConfigFault, State.forgetOutputs, State.forgetChan, h0, channelExists_one_of_nCh_one hn, State.setChan,
    State.countDraw, State.setFault, State.emit]

theorem checkConfig_setChan_one (hn : s.cfg.nCh = 1) :
    checkConfig (s.setChan 1 ch) = (checkConfig s).setChan 1 ch := by
  cases h : cfgError s.cfg with
  | none =>
    rw [checkConfig_of_valid s h, checkConfig_of_valid (s.setChan 1 ch) h]
    rfl
  | some e =>
    rw [checkConfig_of_error s e h, checkConfig_of_error (s.setChan 1 ch) e h]
    exact takeConfigFault_setChan_one ch e hn

theorem resetResult_setChan_one (hn : s.cfg.nCh = 1) :
    resetResult (s.setChan 1 ch) = (resetResult s).setChan 1 ch := by
  cases h : cfgError s.cfg with
  | none =>
    have h1 := channelExists_one_of_nCh_one hn
    rw [resetResult_of_valid s h, resetResult_of_valid (s.setChan 1 ch) h]
    simp [State.setChan, h1]
  | some e =>
    have hfault := takeConfigFault_setChan_one (s := (s.markReset).setPhase .init) ch e hn
    rw [resetResult_of_error s e h, resetResult_of_error (s.setChan 1 ch) e h]
    exact congrArg State.forgetInternals hfault

/-- Every operation of a block of one channel carries the place of channel 1 along. -/
theorem exec_setChan_one {i : Instr} {t : State} (hn : s.cfg.nCh = 1) (hx : exec i s = .next t) :
    exec i (s.setChan 1 ch) = .next (t.setChan 1 ch) := by
  cases i with
  | reset =>
    obtain rfl := exec_reset_eq_next.1 hx
    exact exec_reset_eq_next.2 (resetResult_setChan_one ch hn).symm
  | cfgCheck =>
    obtain rfl := exec_cfgCheck_eq_next.1 hx
    exact exec_cfgCheck_eq_next.2 (checkConfig_setChan_one ch hn).symm
  | debPoll b l =>
    obtain rfl := exec_debPoll_eq_next.1 hx
    exact exec_debPoll_eq_next.2 (pollButton_setChan_one ch b l).symm
  | dutyInc =>
    obtain rfl := exec_dutyInc_eq_next.1 hx
    exact exec_dutyInc_eq_next.2 (increaseDuty_setChan_one ch).symm
  | dutyDec =>
    obtain rfl := exec_dutyDec_eq_next.1 hx
    exact exec_dutyDec_eq_next.2 (decreaseDuty_setChan_one ch).symm
  | dirToggle =>
    obtain rfl := exec_dirToggle_eq_next.1 hx
    exact exec_dirToggle_eq_next.2 rfl
  | pwmInit c =>
    obtain ⟨hex, rfl⟩ := exec_pwmInit_eq_next.1 hx
    obtain rfl := eq_zero_of_channelExists hn hex
    exact exec_pwmInit_eq_next.2 ⟨hex, rfl⟩
  | pwmApply c =>
    obtain ⟨hex, rfl⟩ := exec_pwmApply_eq_next.1 hx
    obtain rfl := eq_zero_of_channelExists hn hex
    exact exec_pwmApply_eq_next.2 ⟨hex, (applyPwm_zero_setChan_one ch).symm⟩
  | dirApply c =>
    obtain ⟨hex, rfl⟩ := exec_dirApply_eq_next.1 hx
    obtain rfl := eq_zero_of_channelExists hn hex
    exact exec_dirApply_eq_next.2 ⟨hex, rfl⟩
  | tmrStart =>
    obtain rfl := exec_tmrStart_eq_next.1 hx
    exact exec_tmrStart_eq_next.2 rfl
  | renderReq =>
    obtain rfl := exec_renderReq_eq_next.1 hx
    exact exec_renderReq_eq_next.2 rfl
  | pass st =>
    obtain ⟨hseen, hnone, rfl⟩ := exec_pass_eq_next.1 hx
    exact exec_pass_eq_next.2 ⟨hseen, hnone, (runPass_setChan_one ch st hn).symm⟩

end AbsentChannel

/-- Settles O52: what a place holds is carried along, so what it held is still there. -/
theorem absentChannelHasNoState : Obligations.AbsentChannelHasNoState := by
  intro i s t ch hn hx
  refine ⟨?_, exec_setChan_one ch hn hx⟩
  have hsame : exec i s = .next (t.setChan 1 s.ch1) := exec_setChan_one s.ch1 hn hx
  rw [hx, Host.Outcome.next.injEq] at hsame
  rw [hsame]
  rfl

/-! Runs of the environment's words. -/

/-- A state with other values in the fields the model adds and in the transients (10_state.md R24, R25, R28, R33). -/
def State.withUnread (s : State) (info : Option CfgError) (inbox : List Request) (draws : Nat) (ev : BitVec 3)
    (chg : Bool) (phase : Phase) : State :=
  { s.withAdded info inbox draws with ev := ev, chg := chg, phase := phase }

section Runs

variable {w : Byte} {ws : List Byte} {s t : State}

theorem observeRun_cons_next (h : step (s.presentOnly w) = .next t) :
    observeRun (w :: ws) s = .next t.observe :: observeRun ws t := by
  simp only [observeRun, h]

theorem observeRun_cons_fault {f : Fault} (h : step (s.presentOnly w) = .fault f) :
    observeRun (w :: ws) s = [.fault f] := by
  simp only [observeRun, h]

theorem observeRun_cons_refused {r : Refusal} (h : step (s.presentOnly w) = .refused r) :
    observeRun (w :: ws) s = [.refused r] := by
  simp only [observeRun, h]

/-- What a word of the environment's is, in every state alike: no step, a `RESET` or a `PASS` (30_encoding.md R63). -/
theorem step_presentOnly_cases (w : Byte) :
    (∃ why, ∀ s : State, step (s.presentOnly w) = .refused (.refusedEncoding why)) ∨
      (∀ s : State, step (s.presentOnly w) = .next (resetResult (s.beginStep []))) ∨
        ∃ st, ∀ s : State, step (s.presentOnly w) = exec (.pass st) (s.beginStep []) := by
  rcases step_presentOnly w with h | ⟨i, rfl | ⟨st, rfl⟩, h⟩
  · exact .inl h
  · exact .inr (.inl fun s => (h s).trans (exec_reset_eq_next.2 rfl))
  · exact .inr (.inr ⟨st, h⟩)

theorem exec_pass_refused {st : Stimulus} (hseen : s.resetSeen = false) :
    exec (.pass st) s = .refused .refusedNoReset := by
  simp [exec, execPass, hseen]

theorem exec_pass_stuck {st : Stimulus} (hseen : s.resetSeen = true) (hfault : s.fault ≠ faultNone) :
    exec (.pass st) s = .fault .passInConfigFault := by
  rw [exec, execPass, if_neg (by simp [hseen]), if_pos hfault]

/-- A `RESET` that stops shows `FAULT` and its event alone (60_exceptions.md R102; log 21). -/
theorem observe_resetResult_of_error (hv : ¬ConfigValid s.cfg) : (resetResult s).observe =
    { fault := faultConfig, registers := none, trace := s.trace ++ [.faultw faultConfig] } := by
  obtain ⟨e, he⟩ := Option.ne_none_iff_exists'.1 hv
  have hfault : (resetResult s).fault = faultConfig := by rw [resetResult_fault, if_neg hv]
  rw [observe_of_fault _ (by rw [hfault]; decide), hfault, resetResult_of_error s e he]
  simp

/-- In the configuration fault nothing of the registers is ever seen: a pass is stuck, and a `RESET` stops again with the
same event (60_exceptions.md R102). -/
theorem observeRun_of_configFaulted {s' : State} (hcfg : s'.cfg = s.cfg) (hs : ConfigFaulted s)
    (hs' : ConfigFaulted s') (hseen : s.resetSeen = true) (hseen' : s'.resetSeen = true) :
    observeRun ws s' = observeRun ws s := by
  induction ws generalizing s s' with
  | nil => rfl
  | cons w ws ih =>
    obtain ⟨hfault, -, hv⟩ := hs
    obtain ⟨hfault', -, hv'⟩ := hs'
    rcases step_presentOnly_cases w with ⟨why, h⟩ | h | ⟨st, h⟩
    · rw [observeRun_cons_refused (h s), observeRun_cons_refused (h s')]
    · rw [observeRun_cons_next (h s), observeRun_cons_next (h s'), observe_resetResult_of_error (s := s.beginStep []) hv,
        observe_resetResult_of_error (s := s'.beginStep []) hv']
      exact congrArg _ (ih (by simpa using hcfg) (configFaulted_resetResult (s := s.beginStep []) hv)
        (configFaulted_resetResult (s := s'.beginStep []) hv') (by simp) (by simp))
    · have hne : faultConfig ≠ faultNone := by decide
      rw [observeRun_cons_fault ((h s).trans (exec_pass_stuck hseen (hfault.trans_ne hne))),
        observeRun_cons_fault ((h s').trans (exec_pass_stuck hseen' (hfault'.trans_ne hne)))]

section Unread

variable (info : Option CfgError) (inbox : List Request) (draws : Nat) (ev : BitVec 3) (chg : Bool) (phase : Phase)

theorem beginStep_withUnread : (s.withUnread info inbox draws ev chg phase).beginStep [] =
    (s.beginStep []).withUnread info [] draws ev chg phase := rfl

theorem observe_withUnread : (s.withUnread info inbox draws ev chg phase).observe = s.observe := rfl

/-- A `RESET` overwrites the info of a fault and `PHASE`, and carries the other unread fields along. -/
theorem resetResult_withUnread (hv : ConfigValid s.cfg) : resetResult (s.withUnread info inbox draws ev chg phase) =
    (resetResult s).withUnread none inbox draws ev chg .idle := by
  rw [resetResult_of_valid s hv, resetResult_of_valid (s.withUnread info inbox draws ev chg phase) hv]
  rfl

/-- A pass overwrites the transients and carries the added fields along. -/
theorem exec_pass_withUnread {st : Stimulus} (hv : ConfigValid s.cfg) (hd : DutyLegal s.duty)
    (hx : exec (.pass st) s = .next t) : exec (.pass st) (s.withUnread info inbox draws ev chg phase) =
      .next (t.withUnread info inbox draws t.ev t.chg t.phase) := by
  have hadded := exec_withAdded info inbox draws hv hd hx
  simp only [reduceCtorEq, or_self, if_false] at hadded
  exact (passIgnoresTransients st (s.withAdded info inbox draws) ev chg phase).trans hadded

/-- From a state of `BlockInv` a pass does the same whatever the unread fields hold: it goes on, is stuck or is refused. -/
theorem exec_pass_withUnread_cases {st : Stimulus} (hinv : BlockInv s) :
    (∃ t, exec (.pass st) s = .next t ∧ exec (.pass st) (s.withUnread info inbox draws ev chg phase) =
        .next (t.withUnread info inbox draws t.ev t.chg t.phase)) ∨
      (∃ f, exec (.pass st) s = .fault f ∧ exec (.pass st) (s.withUnread info inbox draws ev chg phase) = .fault f) ∨
      ∃ r, exec (.pass st) s = .refused r ∧ exec (.pass st) (s.withUnread info inbox draws ev chg phase) = .refused r := by
  cases hseen : s.resetSeen with
  | false => exact .inr (.inr ⟨_, exec_pass_refused hseen, exec_pass_refused hseen⟩)
  | true =>
    rcases hinv hseen with ⟨hnone, -, hv, hduty, -⟩ | ⟨hfault, -⟩
    · have hx : exec (.pass st) s = .next (runPass st s) := exec_pass_eq_next.2 ⟨hseen, hnone, rfl⟩
      exact .inl ⟨_, hx, exec_pass_withUnread info inbox draws ev chg phase hv hduty hx⟩
    · have hne : s.fault ≠ faultNone := hfault.trans_ne (by decide)
      exact .inr (.inl ⟨_, exec_pass_stuck hseen hne, exec_pass_stuck hseen hne⟩)

/-- A run does not show the unread fields: a `RESET` and a pass leave states that differ again in such fields alone, or
both in the configuration fault. -/
theorem observeRun_withUnread (hinv : BlockInv s) :
    observeRun ws (s.withUnread info inbox draws ev chg phase) = observeRun ws s := by
  induction ws generalizing s info inbox draws ev chg phase with
  | nil => rfl
  | cons w ws ih =>
    have hbegin := beginStep_withUnread (s := s) info inbox draws ev chg phase
    rcases step_presentOnly_cases w with ⟨why, h⟩ | h | ⟨st, h⟩
    · rw [observeRun_cons_refused (h s), observeRun_cons_refused (h _)]
    · have h' := h (s.withUnread info inbox draws ev chg phase)
      rw [hbegin] at h'
      rw [observeRun_cons_next (h s), observeRun_cons_next h']
      by_cases hv : ConfigValid (s.beginStep []).cfg
      · rw [resetResult_withUnread info [] draws ev chg phase hv, observe_withUnread]
        exact congrArg _ (ih none [] draws ev chg .idle fun _ => resetResult_blockInv _)
      · have hv' : ¬ConfigValid ((s.beginStep []).withUnread info [] draws ev chg phase).cfg := hv
        rw [observe_resetResult_of_error hv, observe_resetResult_of_error hv']
        exact congrArg _ (observeRun_of_configFaulted (by simp only [resetResult_cfg]; rfl)
          (configFaulted_resetResult hv) (configFaulted_resetResult hv') (by simp) (by simp))
    · have h' := h (s.withUnread info inbox draws ev chg phase)
      rw [hbegin] at h'
      have hinv' : BlockInv (s.beginStep []) := hinv
      rcases exec_pass_withUnread_cases (st := st) info [] draws ev chg phase hinv' with
        ⟨t, hx, hx'⟩ | ⟨f, hx, hx'⟩ | ⟨r, hx, hx'⟩
      · rw [observeRun_cons_next ((h s).trans hx), observeRun_cons_next (h'.trans hx'), observe_withUnread]
        exact congrArg _ (ih info [] draws t.ev t.chg t.phase (exec_blockInv hinv' hx))
      · rw [observeRun_cons_fault ((h s).trans hx), observeRun_cons_fault (h'.trans hx')]
      · rw [observeRun_cons_refused ((h s).trans hx), observeRun_cons_refused (h'.trans hx')]

end Unread

end Runs

/-- Settles O57: `observeRun_withUnread`, the unread fields written out. -/
theorem addedStateIsNeverObserved : Obligations.AddedStateIsNeverObserved :=
  fun _ _ info inbox draws ev chg phase hinv => observeRun_withUnread info inbox draws ev chg phase hinv

end Sys2Proof.Machine

/-! PROOFS. The register pair as a memory (20_memory.md): what `PWM_APPLY` leaves in the compare register and the duty
sub-field, how the two read back together, and that applying again writes the same; the step of a block that waits. -/

namespace Sys2Proof.Machine

/-! The waiting step (20_memory.md R43; log 4). -/

theorem fetch_of_inbox_nil {s : State} (hin : s.inbox = []) : fetch s = .wait (s.beginStep []) := by
  rw [fetch, hin]

/-- Settles O7: the inbox that a waiting step leaves empty was empty. -/
theorem stepWaitsWithoutWord : Obligations.StepWaitsWithoutWord := by
  intro s hin
  rw [step, fetch_of_inbox_nil hin, State.beginStep, ← hin]

/-! The register pair and the number it reads as. -/

/-- A pair whose sub-field is 0 reads as the compare value shifted left by 2 (20_memory.md R36). -/
theorem pairValue_of_dsub_zero {cfg : Config} {ch : Channel} (h : dsub cfg ch.mode = 0) :
    (pairValue cfg ch).toNat = ch.cmp.toNat <<< 2 := by
  rw [pairValue, h, BitVec.toNat_append]
  exact Nat.or_zero _

section Pair

variable {s : State} {c : Chan}

/-- `PWM_APPLY` on a channel of the block, under a valid configuration, commits the pair of the state's `DUTY`
(42_pwm_translator.md R75). -/
theorem exec_pwmApply_of_valid (hv : ConfigValid s.cfg) (hc : channelExists s.cfg c = true) (hd : s.duty.toNat ≤ 100) :
    exec (.pwmApply c) s = .next (commitPair c (committedChannel s c).cmp (committedChannel s c).mode s) :=
  exec_pwmApply_eq_next.2 ⟨hc, (applyPwm_of_valid c s hv hd).symm⟩

@[simp] theorem commitPair_chan_same (cmp mode : Byte) :
    (commitPair c cmp mode s).chan c = { s.chan c with cmp := cmp, mode := mode } :=
  (commitPair_chan c c cmp mode s).trans (if_pos rfl)

/-- The compare register holds the upper eight bits of a 10-bit value (20_memory.md R35). -/
theorem committedChannel_cmp_ten (hv : ConfigValid s.cfg) (hr : s.cfg.res = 10) (hd : s.duty.toNat ≤ 100) :
    (committedChannel s c).cmp = BitVec.ofNat 8 ((s.duty.toNat * 4 * (s.cfg.period + 1) / 100) >>> 2) := by
  obtain ⟨-, -, hperiod, -⟩ := (configValid_iff s.cfg).1 hv
  rw [committedChannel, newCmp_ten s.cfg hr (hperiod hr) _ hd, Option.getD_some]

/-- The sub-field holds the lower two bits of a 10-bit value (20_memory.md R35). -/
theorem committedChannel_dsub_ten (hv : ConfigValid s.cfg) (hr : s.cfg.res = 10) :
    dsub s.cfg (committedChannel s c).mode = BitVec.ofNat 2 (s.duty.toNat * 4 * (s.cfg.period + 1) / 100) := by
  obtain ⟨-, -, -, -, hk, -⟩ := (configValid_iff s.cfg).1 hv
  rw [committedChannel, newMode_ten s.cfg hr hk, Option.getD_some]
  exact dsub_insert _ hk _ _

/-- The compare register holds the whole of an 8-bit value (20_memory.md R36). -/
theorem committedChannel_cmp_eight (hv : ConfigValid s.cfg) (hr : s.cfg.res = 8) (hd : s.duty.toNat ≤ 100) :
    (committedChannel s c).cmp.toNat = s.duty.toNat * s.cfg.period / 100 := by
  obtain ⟨-, -, -, hperiod, -⟩ := (configValid_iff s.cfg).1 hv
  have hle := eight_bit_value_le s.duty.toNat s.cfg.period hd (hperiod hr)
  rw [committedChannel, newCmp_eight s.cfg hr (hperiod hr) _ hd, Option.getD_some, BitVec.toNat_ofNat,
    Nat.mod_eq_of_lt (by omega)]

/-- An 8-bit commit keeps the mode register (42_pwm_translator.md R75). -/
theorem committedChannel_mode_eight (hr : s.cfg.res = 8) : (committedChannel s c).mode = (s.chan c).mode := by
  rw [committedChannel, newMode_eight s.cfg hr, Option.getD_some]

end Pair

/-- Settles O21: the pair committed is the 10-bit value's upper eight bits and its lower two. -/
theorem tenBitSplitReadsBack : Obligations.TenBitSplitReadsBack := by
  intro c s hv hr hc hd
  obtain ⟨-, -, hperiod, -⟩ := (configValid_iff s.cfg).1 hv
  have hle := ten_bit_value_le s.duty.toNat s.cfg.period hd (hperiod hr)
  have hcmp := committedChannel_cmp_ten (c := c) hv hr hd
  have hdsub := committedChannel_dsub_ten (c := c) hv hr
  refine ⟨_, _, pwmValue_ten s.cfg hr _, exec_pwmApply_of_valid hv hc hd, ?_⟩
  rw [commitPair_chan_same, pairValue, hcmp, hdsub]
  refine ⟨?_, ?_, split_ten_bits _ (by omega)⟩
  · rw [BitVec.toNat_ofNat, Nat.shiftRight_eq_div_pow]
    omega
  · rw [BitVec.toNat_ofNat]
    exact (Nat.and_two_pow_sub_one_eq_mod _ 2).symm

/-- Settles O22: the pair committed is the 8-bit value and the mode register as it was. -/
theorem eightBitPairReadsShifted : Obligations.EightBitPairReadsShifted := by
  intro c s hv hr hc hd hzero
  have hcmp := committedChannel_cmp_eight (c := c) hv hr hd
  refine ⟨_, _, pwmValue_eight s.cfg hr _, exec_pwmApply_of_valid hv hc hd, ?_⟩
  rw [commitPair_chan_same, committedChannel_mode_eight hr]
  refine ⟨hcmp, rfl, hzero, ?_⟩
  rw [pairValue_of_dsub_zero (by exact hzero), ← hcmp]

/-! Applying again (20_memory.md R41). -/

/-- The mode register that a commit leaves is the one the next commit of the same duty computes: the sub-field is
replaced, the other bits are kept (20_memory.md R42). -/
theorem newMode_newMode {cfg : Config} (hv : ConfigValid cfg) {d : Nat} {mode mode' : Byte}
    (h : newMode cfg d mode = some mode') : newMode cfg d mode' = some mode' := by
  obtain ⟨-, hres, -, -, hk, -⟩ := (configValid_iff cfg).1 hv
  rcases hres with hr | hr
  · exact newMode_eight cfg hr d mode'
  · rw [newMode_ten cfg hr hk, Option.some.injEq] at h ⊢
    rw [← h]
    exact congrArg (· ||| _) (clear_insert _ hk _ _)

/-- Committing the same pair again adds its event and changes nothing else. -/
theorem commitPair_commitPair (c : Chan) (cmp mode : Byte) (s : State) :
    commitPair c cmp mode (commitPair c cmp mode s) = (commitPair c cmp mode s).emit (.pwmw c cmp mode) :=
  match c with
  | 0 => rfl
  | 1 => rfl

/-- Settles O25: the second application computes the pair that the first one committed. -/
theorem pwmApplyTwiceSameRegisters : Obligations.PwmApplyTwiceSameRegisters := by
  intro c s hv hc hd
  obtain ⟨x, y, hx, hy⟩ := newPair_isSome s.cfg hv s.duty.toNat hd (s.chan c).mode
  have hcfg : (commitPair c x y s).cfg = s.cfg := by simp [commitPair_eq]
  have hduty : (commitPair c x y s).duty = s.duty := by simp [commitPair_eq]
  have hfirst : applyPwm c s = commitPair c x y s := applyPwm_of_some c s x y hx hy
  have hsecond : applyPwm c (commitPair c x y s) = commitPair c x y (commitPair c x y s) := by
    apply applyPwm_of_some <;> rw [hcfg, hduty]
    · exact hx
    · rw [commitPair_chan_same]
      exact newMode_newMode hv hy
  refine ⟨_, _, exec_pwmApply_eq_next.2 ⟨hc, hfirst.symm⟩,
    exec_pwmApply_eq_next.2 ⟨hcfg ▸ hc, hsecond.symm⟩, ?_⟩
  rw [commitPair_commitPair]
  rfl

end Sys2Proof.Machine

/-! PROOFS. The opcode map as a whole (30_encoding.md R50, R55): a word is the word of one operation, or it decodes to
nothing and R55 lists it; which words the environment and an absent channel are refused; a click. -/

namespace Sys2Proof

/-! The two halves of a word (30_encoding.md R49). -/

theorem toNat_eq_nibbles (w : Byte) : w.toNat = 16 * (w.extractLsb' 4 4).toNat + (w.extractLsb' 0 4).toNat := by
  simp only [BitVec.extractLsb'_toNat, Nat.shiftRight_eq_div_pow]
  omega

/-- The number of an operation's word, by the row of the opcode map: the row's first word plus the value of its fields
(30_encoding.md R50). -/
def Instr.wordNumber : Instr → Nat
  | .reset => 0x00
  | .debPoll b l => 0x10 + 4 * l.toNat + Machine.buttonIndex b
  | .dutyInc => 0x20
  | .dutyDec => 0x21
  | .dirToggle => 0x22
  | .pwmInit c => 0x30 + c.val
  | .pwmApply c => 0x40 + c.val
  | .dirApply c => 0x50 + c.val
  | .tmrStart => 0x60
  | .renderReq => 0x70
  | .pass st => 0x80 + st.toNat
  | .cfgCheck => 0x90

theorem encode_toNat (i : Instr) : (encode i).toNat = i.wordNumber := by
  cases i with
  | reset | dutyInc | dutyDec | dirToggle | tmrStart | renderReq | cfgCheck => rfl
  | debPoll b l => cases b <;> cases l <;> rfl
  | pwmInit c | pwmApply c | dirApply c => fin_cases c <;> rfl
  | pass st =>
    revert st
    decide

/-! What each group of the decoder answers, by the value of the argument nibble (30_encoding.md R50). -/

theorem decodeFixed_cases (arg : BitVec 4) (i : Instr) :
    (arg.toNat = 0 ∧ decodeFixed arg 0 i = .ok i) ∨ (0 < arg.toNat ∧ decodeFixed arg 0 i = .error .reservedWord) := by
  by_cases h : arg = 0
  · exact .inl ⟨by rw [h]; rfl, by rw [decodeFixed, if_pos h]⟩
  · have hne : arg.toNat ≠ 0 := fun h0 => h (BitVec.eq_of_toNat_eq h0)
    exact .inr ⟨by omega, by rw [decodeFixed, if_neg h]⟩

theorem decodeChanOp_cases (arg : BitVec 4) (f : Chan → Instr) :
    (∃ c : Chan, arg.toNat = c.val ∧ decodeChanOp arg f = .ok (f c)) ∨
      (1 < arg.toNat ∧ decodeChanOp arg f = .error .reservedWord) := by
  by_cases h : arg.extractLsb' 1 3 = 0
  · have hval : arg.toNat = (decodeChan (arg.getLsbD 0)).val := by
      revert arg
      decide
    exact .inl ⟨_, hval, by rw [decodeChanOp, if_pos h]⟩
  · have hlt : 1 < arg.toNat := by
      revert arg
      decide
    exact .inr ⟨hlt, by rw [decodeChanOp, if_neg h]⟩

theorem decodeDuty_cases (arg : BitVec 4) :
    (arg.toNat = 0 ∧ decodeDuty arg = .ok .dutyInc) ∨ (arg.toNat = 1 ∧ decodeDuty arg = .ok .dutyDec) ∨
      (arg.toNat = 2 ∧ decodeDuty arg = .ok .dirToggle) ∨ (2 < arg.toNat ∧ decodeDuty arg = .error .reservedWord) := by
  unfold decodeDuty
  split
  next h => exact .inl ⟨h, rfl⟩
  next h => exact .inr (.inl ⟨h, rfl⟩)
  next h => exact .inr (.inr (.inl ⟨h, rfl⟩))
  next h0 h1 h2 => exact .inr (.inr (.inr ⟨Nat.two_lt_of_ne h0 h1 h2, rfl⟩))

theorem decodePoll_cases (arg : BitVec 4) :
    (∃ b l, arg.toNat = 4 * l.toNat + Machine.buttonIndex b ∧ decodePoll arg = .ok (.debPoll b l)) ∨
      ((arg.toNat = 3 ∨ 6 < arg.toNat) ∧ ∃ why, decodePoll arg = .error why) := by
  cases hhigh : arg.getLsbD 3 with
  | true =>
    have hlt : 6 < arg.toNat := by
      revert arg
      decide
    exact .inr ⟨.inr hlt, _, by rw [decodePoll, if_pos hhigh]⟩
  | false =>
    cases hbutton : decodeButton (arg.extractLsb' 0 2) with
    | none =>
      have hval : arg.toNat = 3 ∨ 6 < arg.toNat := by
        revert arg
        decide
      exact .inr ⟨hval, .reservedButton, by simp only [decodePoll, hhigh, hbutton, Bool.false_eq_true, if_false]⟩
    | some b =>
      have hval : arg.toNat = 4 * (arg.getLsbD 2).toNat + Machine.buttonIndex b := by
        revert arg
        cases b <;> decide
      exact .inl ⟨b, _, hval, by simp only [decodePoll, hhigh, hbutton, Bool.false_eq_true, if_false]⟩

theorem decodePass_cases (arg : BitVec 4) :
    (∃ st : Stimulus, arg.toNat = st.toNat ∧ decodePass arg = .ok (.pass st)) ∨
      (7 < arg.toNat ∧ decodePass arg = .error .reservedWord) := by
  cases hhigh : arg.getLsbD 3 with
  | true =>
    have hlt : 7 < arg.toNat := by
      revert arg
      decide
    exact .inr ⟨hlt, by rw [decodePass, if_pos hhigh]⟩
  | false =>
    have hval : arg.toNat = (arg.extractLsb' 0 3).toNat := by
      revert arg
      decide
    exact .inl ⟨_, hval, by rw [decodePass, if_neg (Bool.eq_false_iff.1 hhigh)]⟩

/-! The whole decoder. -/

/-- What a decoder may answer for a word: the operation whose word it is, or, for a word that R55 lists under every
configuration, no operation (30_encoding.md R50, R55). -/
def AnswersByMap (w : Byte) (answer : Except EncodingError Instr) : Prop :=
  (∃ i, answer = .ok i ∧ w = encode i) ∨ ((∃ why, answer = .error why) ∧ ∀ cfg, Machine.ReservedWord cfg w)

/-- The words that R55 lists under every configuration, by their numbers. -/
theorem reservedWord_of_toNat {w : Byte} (cfg : Config)
    (h : w.toNat = 0x13 ∨ w.toNat = 0x17 ∨ (0x01 ≤ w.toNat ∧ w.toNat ≤ 0x0F) ∨ (0x18 ≤ w.toNat ∧ w.toNat ≤ 0x1F) ∨
      (0x23 ≤ w.toNat ∧ w.toNat ≤ 0x2F) ∨ (0x32 ≤ w.toNat ∧ w.toNat ≤ 0x3F) ∨ (0x42 ≤ w.toNat ∧ w.toNat ≤ 0x4F) ∨
      (0x52 ≤ w.toNat ∧ w.toNat ≤ 0x5F) ∨ (0x61 ≤ w.toNat ∧ w.toNat ≤ 0x6F) ∨ (0x71 ≤ w.toNat ∧ w.toNat ≤ 0x7F) ∨
      (0x88 ≤ w.toNat ∧ w.toNat ≤ 0x8F) ∨ 0x91 ≤ w.toNat) :
    Machine.ReservedWord cfg w := by
  unfold Machine.ReservedWord
  bv_omega

section Answers

variable {w : Byte} {answer : Except EncodingError Instr}

theorem answersByMap_of_ok {i : Instr} (h : answer = .ok i) (hw : w.toNat = i.wordNumber) : AnswersByMap w answer :=
  .inl ⟨i, h, BitVec.eq_of_toNat_eq (hw.trans (encode_toNat i).symm)⟩

theorem answersByMap_of_error {why : EncodingError} (h : answer = .error why)
    (hw : ∀ cfg, Machine.ReservedWord cfg w) : AnswersByMap w answer :=
  .inr ⟨⟨why, h⟩, hw⟩

/-- The group `k` of an operation without a field (30_encoding.md R50). -/
theorem decodeFixed_answersByMap {k : Nat} {arg : BitVec 4} {i : Instr} (hw : w.toNat = 16 * k + arg.toNat)
    (hi : i.wordNumber = 16 * k) (hk : k = 0 ∨ k = 6 ∨ k = 7 ∨ k = 9) : AnswersByMap w (decodeFixed arg 0 i) := by
  rcases decodeFixed_cases arg i with ⟨harg, h⟩ | ⟨harg, h⟩
  · exact answersByMap_of_ok h (by omega)
  · exact answersByMap_of_error h (fun cfg => reservedWord_of_toNat cfg (by omega))

/-- The group `k` of an operation on a channel (30_encoding.md R50, R52). -/
theorem decodeChanOp_answersByMap {k : Nat} {arg : BitVec 4} {f : Chan → Instr} (hw : w.toNat = 16 * k + arg.toNat)
    (hf : ∀ c, (f c).wordNumber = 16 * k + c.val) (hk : k = 3 ∨ k = 4 ∨ k = 5) :
    AnswersByMap w (decodeChanOp arg f) := by
  rcases decodeChanOp_cases arg f with ⟨c, harg, h⟩ | ⟨harg, h⟩
  · exact answersByMap_of_ok h (by rw [hf, hw, harg])
  · exact answersByMap_of_error h (fun cfg => reservedWord_of_toNat cfg (by omega))

theorem decodePoll_answersByMap {arg : BitVec 4} (hw : w.toNat = 16 * 1 + arg.toNat) :
    AnswersByMap w (decodePoll arg) := by
  rcases decodePoll_cases arg with ⟨b, l, harg, h⟩ | ⟨harg, why, h⟩
  · exact answersByMap_of_ok h (by simp only [Instr.wordNumber]; omega)
  · exact answersByMap_of_error h (fun cfg => reservedWord_of_toNat cfg (by omega))

theorem decodeDuty_answersByMap {arg : BitVec 4} (hw : w.toNat = 16 * 2 + arg.toNat) :
    AnswersByMap w (decodeDuty arg) := by
  rcases decodeDuty_cases arg with ⟨harg, h⟩ | ⟨harg, h⟩ | ⟨harg, h⟩ | ⟨harg, h⟩
  · exact answersByMap_of_ok h (by rw [hw, harg]; rfl)
  · exact answersByMap_of_ok h (by rw [hw, harg]; rfl)
  · exact answersByMap_of_ok h (by rw [hw, harg]; rfl)
  · exact answersByMap_of_error h (fun cfg => reservedWord_of_toNat cfg (by omega))

theorem decodePass_answersByMap {arg : BitVec 4} (hw : w.toNat = 16 * 8 + arg.toNat) :
    AnswersByMap w (decodePass arg) := by
  rcases decodePass_cases arg with ⟨st, harg, h⟩ | ⟨harg, h⟩
  · exact answersByMap_of_ok h (by rw [hw, harg]; rfl)
  · exact answersByMap_of_error h (fun cfg => reservedWord_of_toNat cfg (by omega))

end Answers

/-- The decoder follows the opcode map over all words: each group accepts the argument nibbles of its rows, and R55
lists the words of the others. -/
theorem decode_answersByMap (w : Byte) : AnswersByMap w (decode w) := by
  have hw := toNat_eq_nibbles w
  simp only [decode]
  generalize w.extractLsb' 0 4 = arg at hw ⊢
  split
  next hop => rw [hop] at hw; exact decodeFixed_answersByMap hw rfl (by decide)
  next hop => rw [hop] at hw; exact decodePoll_answersByMap hw
  next hop => rw [hop] at hw; exact decodeDuty_answersByMap hw
  next hop => rw [hop] at hw; exact decodeChanOp_answersByMap hw (fun _ => rfl) (by decide)
  next hop => rw [hop] at hw; exact decodeChanOp_answersByMap hw (fun _ => rfl) (by decide)
  next hop => rw [hop] at hw; exact decodeChanOp_answersByMap hw (fun _ => rfl) (by decide)
  next hop => rw [hop] at hw; exact decodeFixed_answersByMap hw rfl (by decide)
  next hop => rw [hop] at hw; exact decodeFixed_answersByMap hw rfl (by decide)
  next hop => rw [hop] at hw; exact decodePass_answersByMap hw
  next hop => rw [hop] at hw; exact decodeFixed_answersByMap hw rfl (by decide)
  next =>
    -- No group has this number: the word is 0xA0 or above.
    simp only [imp_false] at *
    exact answersByMap_of_error rfl (fun cfg => reservedWord_of_toNat cfg (by omega))

/-- A word decodes to an operation exactly when it is the operation's word (30_encoding.md R50, R59). -/
theorem decode_eq_ok_iff {w : Byte} {i : Instr} : decode w = .ok i ↔ w = encode i := by
  constructor
  · intro hdec
    rcases decode_answersByMap w with ⟨j, hj, hw⟩ | ⟨⟨why, herr⟩, -⟩
    · rw [hw, Except.ok.inj (hdec.symm.trans hj)]
    · rw [herr] at hdec
      cases hdec
  · rintro rfl
    exact decode_encode i

/-- Settles O2: each operation's word reads back. -/
theorem decodeInvertsEncode : Obligations.DecodeInvertsEncode :=
  decode_encode

/-- Settles O3: the decoder answers an operation for that operation's word alone. -/
theorem encodeInvertsDecode : Obligations.EncodeInvertsDecode :=
  fun _ _ hdec => (decode_eq_ok_iff.1 hdec).symm

/-- Settles O1: each word is the one the encoder gives the operation of its row. -/
theorem opcodeMapWordsDecode : Obligations.OpcodeMapWordsDecode := by
  simp only [Obligations.OpcodeMapWordsDecode, decode_eq_ok_iff]
  decide

/-! Operations a configuration has (30_encoding.md R52, R55). -/

theorem wellFormed_of_nCh_two {cfg : Config} (hn : cfg.nCh = 2) (i : Instr) : i.wellFormed cfg = true := by
  have hexists (c : Chan) : channelExists cfg c = true := decide_eq_true (by omega)
  cases i with
  | pwmInit c | pwmApply c | dirApply c => exact hexists c
  | reset | debPoll | dutyInc | dutyDec | dirToggle | tmrStart | renderReq | pass | cfgCheck => rfl

/-- R55 lists the word of an operation only in a block of one channel, for an operation on the other one. -/
theorem reservedWord_encode_iff (cfg : Config) (i : Instr) :
    Machine.ReservedWord cfg (encode i) ↔ cfg.nCh = 1 ∧ i.wellFormed cfg = false := by
  have hnum := encode_toNat i
  unfold Machine.ReservedWord
  generalize encode i = w at hnum ⊢
  cases i with
  | pwmInit c | pwmApply c | dirApply c =>
    simp only [Instr.wordNumber, Instr.wellFormed, channelExists, decide_eq_false_iff_not] at hnum ⊢
    bv_omega
  | reset | dutyInc | dutyDec | dirToggle | tmrStart | renderReq | cfgCheck | pass st =>
    simp only [Instr.wordNumber, Instr.wellFormed, Bool.true_eq_false, and_false, iff_false] at hnum ⊢
    bv_omega
  | debPoll b l =>
    have hb : Machine.buttonIndex b < 3 := by cases b <;> decide
    have hl : l.toNat ≤ 1 := Bool.toNat_le l
    simp only [Instr.wordNumber, Instr.wellFormed, Bool.true_eq_false, and_false, iff_false] at hnum ⊢
    bv_omega

end Sys2Proof

namespace Sys2Proof.Machine

/-! Operations refused for the channel they name. -/

theorem onChannel_eq_refused {c : Chan} {f : State → State} {s : State} :
    onChannel c f s = .refused (.refusedEncoding .absentChannel) ↔ channelExists s.cfg c = false := by
  unfold onChannel
  split
  next h => simp [h]
  next h => simp [h]

/-- A pass is refused for want of a `RESET` only, never as an encoding (60_exceptions.md R103). -/
theorem exec_pass_ne_refusedEncoding (st : Stimulus) (s : State) (why : EncodingError) :
    exec (.pass st) s ≠ .refused (.refusedEncoding why) := by
  cases hseen : s.resetSeen with
  | false => simp [exec_pass_refused hseen]
  | true =>
    by_cases hfault : s.fault = faultNone
    · simp [exec_pass_eq_next.2 ⟨hseen, hfault, rfl⟩]
    · simp [exec_pass_stuck hseen hfault]

/-- Settles O9: an operation on a channel asks whether the block has it; the others name no channel, and no answer of
theirs is this refusal. -/
theorem absentChannelRefused : Obligations.AbsentChannelRefused := by
  intro i s
  cases i with
  | pwmInit c | pwmApply c | dirApply c => exact onChannel_eq_refused
  | pass st => simp [exec_pass_ne_refusedEncoding, Instr.wellFormed]
  | reset => simp [exec_reset_eq_next.2 rfl, Instr.wellFormed]
  | debPoll | dutyInc | dutyDec | dirToggle | tmrStart | renderReq | cfgCheck => exact iff_of_false nofun nofun

/-! Words refused as an encoding. -/

section Refused

variable {s : State} {r : Request} {rest : List Request} {why : EncodingError}

theorem step_of_decode_error (hin : s.inbox = r :: rest) (hdec : decode r.word = .error why) :
    step s = .refused (.refusedEncoding why) := by
  simp [step, fetch, hin, hdec]

theorem step_of_issueError {i : Instr} (hin : s.inbox = r :: rest) (hdec : decode r.word = .ok i)
    (hiss : issueError r.issuer i = some why) : step s = .refused (.refusedEncoding why) := by
  simp [step, fetch, hin, hdec, hiss]

/-- An operation the block has not is refused, by the check of its issuer or by its own meaning (30_encoding.md R55). -/
theorem step_of_not_wellFormed {i : Instr} (hin : s.inbox = r :: rest) (hdec : decode r.word = .ok i)
    (hwf : i.wellFormed s.cfg = false) : ∃ why, step s = .refused (.refusedEncoding why) := by
  cases hiss : issueError r.issuer i with
  | some why => exact ⟨why, step_of_issueError hin hdec hiss⟩
  | none =>
    refine ⟨.absentChannel, ?_⟩
    rw [stepRunsPresentedWord s r rest i hin hdec hiss]
    exact (absentChannelRefused i _).2 hwf

end Refused

/-- Settles O4: a word of R55's list decodes to nothing or names a channel the block has not; any other word is the word
of an operation that a block of one channel or two has. -/
theorem reservedWordsRefused : Obligations.ReservedWordsRefused := by
  constructor
  · intro s r rest hin hres
    rcases decode_answersByMap r.word with ⟨i, hdec, hw⟩ | ⟨⟨why, herr⟩, -⟩
    · rw [hw, reservedWord_encode_iff] at hres
      exact step_of_not_wellFormed hin hdec hres.2
    · exact ⟨why, step_of_decode_error hin herr⟩
  · intro cfg w hv hres
    rcases decode_answersByMap w with ⟨i, hdec, hw⟩ | ⟨-, hlisted⟩
    · refine ⟨i, hdec, ?_⟩
      rw [hw, reservedWord_encode_iff, not_and, Bool.not_eq_false] at hres
      rcases ((configValid_iff cfg).1 hv).1 with hone | htwo
      · exact hres hone
      · exact wellFormed_of_nCh_two htwo i
    · exact absurd (hlisted cfg) hres

/-- The words of `RESET` and of the passes (30_encoding.md R63). -/
theorem encode_of_isStep {i : Instr} (h : i.isStep = true) :
    encode i = 0x00 ∨ (0x80 ≤ encode i ∧ encode i ≤ 0x87) := by
  have hnum := encode_toNat i
  rcases reset_or_pass_of_environment (by simp [issueError, h] : issueError .environment i = none) with rfl | ⟨st, rfl⟩
  · exact .inl rfl
  · simp only [Instr.wordNumber] at hnum
    bv_omega

/-- Settles O5: a word that is neither a `RESET` nor a `PASS` decodes to nothing or to a micro-operation. -/
theorem environmentMayIssueOnlySteps : Obligations.EnvironmentMayIssueOnlySteps := by
  intro s w rest hin hw
  cases hdec : decode w with
  | error why => exact ⟨why, step_of_decode_error hin hdec⟩
  | ok i =>
    have hstep : i.isStep = false := by
      rw [Bool.eq_false_iff]
      intro h
      rw [decode_eq_ok_iff.1 hdec] at hw
      exact hw (encode_of_isStep h)
    exact ⟨.environmentMicroOp, step_of_issueError hin hdec (by simp [issueError, hstep])⟩

/-- The word of a `RESET` or a `PASS`, presented by the environment alone, is run (30_encoding.md R63). -/
theorem step_presentOnly_of_isStep {i : Instr} (s : State) (h : i.isStep = true) :
    step (s.presentOnly (encode i)) = exec i (s.beginStep []) :=
  stepRunsPresentedWord (s.presentOnly (encode i)) _ [] i rfl (decode_encode i) (by simp [issueError, h])

/-! Passes presented one after another (44_control_pass.md R97). -/

section Passes

variable (st : Stimulus) (s : State)

@[simp] theorem runPass_resetSeen : (runPass st s).resetSeen = s.resetSeen := by
  obtain ⟨_, _, _, _, -, h⟩ := runPass_frame st s
  rw [h]
  rfl

@[simp] theorem runPass_fault : (runPass st s).fault = s.fault := by
  obtain ⟨_, _, _, _, -, h⟩ := runPass_frame st s
  rw [h]
  rfl

/-- A pass leaves `SR` as its stimulus (40_debounce.md R64). -/
@[simp] theorem runPass_sr : (runPass st s).sr = st := by
  obtain ⟨_, _, _, _, -, h⟩ := runPass_frame st s
  rw [h]
  rfl

theorem runPass_srBit (b : Button) : (runPass st s).srBit b = level st b := by
  rw [State.srBit, runPass_sr, level]

theorem settle_mem_settles (b : Button) : Event.settle b ∈ settles st s ↔ firedBy st s b = true := by
  cases b <;> simp [settles, buttons]

/-- The settles that a pass adds to the trace are those of the buttons it fires (44_control_pass.md R91). -/
theorem settle_mem_runPass (b : Button) :
    Event.settle b ∈ (runPass st s).trace ↔ Event.settle b ∈ s.trace ∨ firedBy st s b = true := by
  obtain ⟨_, _, _, ev, hev, h⟩ := runPass_frame st s
  rw [h, List.mem_append, List.mem_append, settle_mem_settles, or_iff_left (hev b)]

/-- The state after a pass that the environment presents to a block with nothing else presented. -/
def afterPass : State :=
  runPass st (s.beginStep [])

variable {s}

/-- In normal operation after a `RESET` each presented pass is one step (00_scope.md R7). -/
theorem passStates_cons (hseen : s.resetSeen = true) (hfault : s.fault = faultNone) (sts : List Stimulus) :
    passStates (st :: sts) s = afterPass st s :: passStates sts (afterPass st s) := by
  have hstep : step (s.presentOnly (encode (.pass st))) = .next (afterPass st s) :=
    (step_presentOnly_of_isStep s rfl).trans (exec_pass_eq_next.2 ⟨hseen, hfault, rfl⟩)
  rw [State.presentOnly] at hstep
  simp only [passStates, hstep]

variable (s)

@[simp] theorem afterPass_resetSeen : (afterPass st s).resetSeen = s.resetSeen :=
  runPass_resetSeen st _

@[simp] theorem afterPass_fault : (afterPass st s).fault = s.fault :=
  runPass_fault st _

theorem afterPass_srBit (b : Button) : (afterPass st s).srBit b = level st b :=
  runPass_srBit st _ b

/-- The trace of a presented pass holds the settles of the buttons it fires and no other. -/
theorem settle_mem_afterPass (b : Button) : Event.settle b ∈ (afterPass st s).trace ↔ firedBy st s b = true := by
  simp only [afterPass, settle_mem_runPass, State.beginStep_trace, List.not_mem_nil, false_or]
  rfl

end Passes

/-- Settles O14: the first pass samples a press with the debouncer armed, the second a release, which arms it again. -/
theorem clickGivesOnePressEvent : Obligations.ClickGivesOnePressEvent := by
  intro s b press release hseen hfault harmed hpress hrelease
  refine ⟨afterPass press s, afterPass release (afterPass press s), ?_, ?_, ?_, ?_⟩
  · rw [passStates_cons press hseen hfault, passStates_cons release (by simpa) (by simpa), passStates]
  · rw [settle_mem_afterPass, firedBy, hpress, harmed]
    rfl
  · rw [settle_mem_afterPass, firedBy, hrelease]
    exact Bool.false_ne_true
  · rw [afterPass_srBit, hrelease]

/-! The assembler's pseudo-instructions (30_encoding.md R62). -/

/-- A line of one token with operations of the environment's is assembled into their words. -/
theorem assemble_token {t : String} {is : List Instr} (hline : parseLine [t] = some is)
    (hstep : is.all Instr.isStep = true) : assemble [[t]] = some (is.map encode) := by
  simp [assemble, hline, hstep]

/-- Settles O10: each line expands to one pass or two, whose words the encoder gives. -/
theorem pseudoInstructionBytes : Obligations.PseudoInstructionBytes := by
  refine ⟨?_, ?_, ?_, ?_, ?_, ?_, ?_⟩
  · exact assemble_token (is := Pseudo.idle.expand) (by decide) rfl
  · exact assemble_token (is := Pseudo.holdUp.expand) (by decide) rfl
  · exact assemble_token (is := Pseudo.holdDown.expand) (by decide) rfl
  · exact assemble_token (is := Pseudo.holdTog.expand) (by decide) rfl
  · exact assemble_token (is := Pseudo.clickUp.expand) (by decide) rfl
  · exact assemble_token (is := Pseudo.clickDown.expand) (by decide) rfl
  · exact assemble_token (is := Pseudo.clickTog.expand) (by decide) rfl

end Sys2Proof.Machine

/-! PROOFS. The debouncer: one poll (40_debounce.md R64), and the press events of a sequence of passes (R65). -/

namespace Sys2Proof.Machine

/-! One poll. -/

/-- A poll writes `SR`, `EV` and the trace only (40_debounce.md R64). -/
theorem pollButton_writes (b : Button) (l : Bool) (s : State) : pollButton b l s =
    { s with sr := (pollButton b l s).sr, ev := (pollButton b l s).ev, trace := (pollButton b l s).trace } := by
  rw [pollButton_eq]

/-- A poll that fires sets `EV[b]` and emits the settle. -/
theorem pollButton_fires {b : Button} {s : State} (harmed : s.srBit b = true) :
    (∀ d, (pollButton b false s).evBit d = if d = b then true else s.evBit d) ∧
      (pollButton b false s).trace = s.trace ++ [.settle b] := by
  constructor
  · intro d
    by_cases hd : d = b <;> simp [State.evBit, pollButton_evBit, harmed, hd]
  · simp [pollButton_trace, harmed]

/-- A poll that does not fire touches neither `EV` nor the trace. -/
theorem pollButton_quiet {b : Button} {l : Bool} {s : State} (h : ¬(s.srBit b = true ∧ l = false)) :
    (pollButton b l s).ev = s.ev ∧ (pollButton b l s).trace = s.trace := by
  have hquiet : (!l && s.srBit b) = false := by
    rw [Bool.eq_false_iff]
    simpa [and_comm] using h
  simp [pollButton_eq, hquiet]

/-- Settles O11: the poll of a pressed button with its debouncer armed fires, every other poll is quiet, and `SR[b]` takes
the level in both. -/
theorem debPollFollowsTable : Obligations.DebPollFollowsTable := by
  intro b l s
  refine ⟨pollButton b l s, exec_debPoll_eq_next.2 rfl, pollButton_writes b l s,
    fun d => pollButton_srBit b d l s, ?_⟩
  split
  next h =>
    obtain ⟨harmed, rfl⟩ := h
    exact pollButton_fires harmed
  next h => exact pollButton_quiet h

/-! A sequence of passes. -/

section Sequence

variable {s : State} (hseen : s.resetSeen = true) (hfault : s.fault = faultNone) (sts : List Stimulus) (b : Button)

include hseen hfault

/-- In normal operation after a `RESET` every stimulus has its pass (44_control_pass.md R97). -/
theorem passStates_length : (passStates sts s).length = sts.length := by
  induction sts generalizing s with
  | nil => rfl
  | cons st sts ih =>
    rw [passStates_cons st hseen hfault, List.length_cons, List.length_cons, ih (by simpa) (by simpa)]

/-- The n-th pass fires button b exactly when it samples 0 and the sample before it is 1; `SR[b]` is the sample before the
first pass, and each pass leaves its own sample there for the next (40_debounce.md R64, R65). -/
theorem settle_mem_passStates {n : Nat} {st : Stimulus} {t : State} (hst : sts[n]? = some st)
    (ht : (passStates sts s)[n]? = some t) :
    Event.settle b ∈ t.trace ↔
      level st b = false ∧ (s.srBit b :: sts.map (fun p => level p b))[n]? = some true := by
  induction sts generalizing s n with
  | nil => cases hst
  | cons first sts ih =>
    rw [passStates_cons first hseen hfault] at ht
    cases n with
    | zero =>
      obtain rfl : first = st := Option.some.inj hst
      obtain rfl : afterPass first s = t := Option.some.inj ht
      simp [settle_mem_afterPass, firedBy]
    | succ n =>
      have h := ih (by simpa) (by simpa) hst ht
      rwa [afterPass_srBit] at h

/-- Button b fires once per maximal run of 0 in its samples, `SR[b]` being the sample before them (40_debounce.md R65). -/
theorem countP_settle_passStates :
    (passStates sts s).countP (fun t => decide (Event.settle b ∈ t.trace)) =
      pressedRuns (s.srBit b) (sts.map (fun st => level st b)) := by
  induction sts generalizing s with
  | nil => rfl
  | cons st sts ih =>
    have hrest := ih (s := afterPass st s) (by simpa) (by simpa)
    rw [afterPass_srBit] at hrest
    rw [passStates_cons st hseen hfault, List.countP_cons, hrest, List.map_cons, pressedRuns, Nat.add_comm]
    simp [settle_mem_afterPass, firedBy, and_comm]

end Sequence

/-- Settles O12: with `SR` all ones the sample before the first pass is 1 for every button. -/
theorem pressEventsAreRunsOfZero : Obligations.PressEventsAreRunsOfZero := by
  intro s sts b hseen hfault hsr
  have harmed : s.srBit b = true := by
    rw [State.srBit, hsr]
    exact buttonBit_ones b
  refine ⟨passStates_length hseen hfault sts, ?_, ?_⟩
  · intro n st t hst ht
    rw [settle_mem_passStates hseen hfault sts b hst ht, harmed]
    cases n with
    | zero => simp
    | succ n => simp
  · rw [countP_settle_passStates hseen hfault, harmed]

end Sys2Proof.Machine

/-! PROOFS. The Duty Controller (41_duty_controller.md): its three operations (R68 to R70), repeated steps of the duty
(R71), and the change flag of a pass (R72). -/

namespace Sys2Proof.Machine

/-! The operations on the duty. -/

/-- The frame of `DUTY_INC` and `DUTY_DEC`: t differs from s at most in `DUTY` and `CHG` (10_state.md R30). -/
abbrev WritesDutyAndChg (s t : State) : Prop :=
  t = { s with duty := t.duty, chg := t.chg }

theorem WritesDutyAndChg.trans {s t u : State} (hst : WritesDutyAndChg s t) (htu : WritesDutyAndChg t u) :
    WritesDutyAndChg s u := by
  unfold WritesDutyAndChg
  rw [htu, hst]

section Operations

variable {s : State}

theorem increaseDuty_of_lt (h : s.duty.toNat < 100) :
    increaseDuty s = { s with duty := BitVec.ofNat 7 (s.duty.toNat + 10), chg := true } := by
  rw [increaseDuty_eq, if_pos h]

theorem increaseDuty_of_ge (h : 100 ≤ s.duty.toNat) : increaseDuty s = s := by
  rw [increaseDuty_eq, if_neg h.not_gt]

theorem decreaseDuty_of_pos (h : 0 < s.duty.toNat) :
    decreaseDuty s = { s with duty := BitVec.ofNat 7 (s.duty.toNat - 10), chg := true } := by
  rw [decreaseDuty_eq, if_pos h]

theorem decreaseDuty_of_zero (h : s.duty.toNat = 0) : decreaseDuty s = s := by
  rw [decreaseDuty_eq, if_neg h.not_gt]

end Operations

theorem increaseDuty_writesDutyAndChg (s : State) : WritesDutyAndChg s (increaseDuty s) := by
  rcases lt_or_ge s.duty.toNat 100 with h | h
  · rw [increaseDuty_of_lt h]
  · rw [increaseDuty_of_ge h]

theorem decreaseDuty_writesDutyAndChg (s : State) : WritesDutyAndChg s (decreaseDuty s) := by
  rcases Nat.eq_zero_or_pos s.duty.toNat with h | h
  · rw [decreaseDuty_of_zero h]
  · rw [decreaseDuty_of_pos h]

/-- A decrease of the duty stops at 0. -/
theorem decreaseDuty_toNat (s : State) : (decreaseDuty s).duty.toNat = s.duty.toNat - 10 := by
  rcases Nat.eq_zero_or_pos s.duty.toNat with h | h
  · rw [decreaseDuty_of_zero h, h]
  · rw [decreaseDuty_of_pos h, toNat_ofNat_duty _ (by omega)]

/-- Settles O15: below 100 the sum is at most 109, which the seven bits of `DUTY` hold. -/
theorem dutyIncSaturatesAtHundred : Obligations.DutyIncSaturatesAtHundred := by
  intro s
  refine ⟨increaseDuty s, exec_dutyInc_eq_next.2 rfl, increaseDuty_writesDutyAndChg s, fun h => ?_, increaseDuty_of_ge⟩
  rw [increaseDuty_of_lt h]
  exact ⟨toNat_ofNat_duty _ (by omega), rfl⟩

/-- Settles O16: a legal duty above 0 is at least 10, so that the subtraction takes all of 10. -/
theorem dutyDecSaturatesAtZero : Obligations.DutyDecSaturatesAtZero := by
  intro s ⟨hle, hmod⟩
  refine ⟨decreaseDuty s, exec_dutyDec_eq_next.2 rfl, decreaseDuty_writesDutyAndChg s, fun h => ⟨?_, ?_⟩,
    decreaseDuty_of_zero⟩
  · rw [decreaseDuty_toNat]
    omega
  · rw [decreaseDuty_of_pos h]

/-! The direction. -/

@[simp] theorem toggleDir_dir (s : State) : (toggleDir s).dir = Direction.flip s.dir := rfl

/-- Settles O17: the operation flips `DIR`, and a flip is its own inverse. -/
theorem dirToggleFlips : Obligations.DirToggleFlips := by
  intro s
  refine ⟨toggleDir s, toggleDir (toggleDir s), exec_dirToggle_eq_next.2 rfl, toggleDir_eq s, fun h => ?_, fun h => ?_,
    exec_dirToggle_eq_next.2 rfl, ?_⟩
  · rw [toggleDir_dir, h, Direction.flip]
  · rw [toggleDir_dir, h, Direction.flip]
  · rw [toggleDir_dir, toggleDir_dir, direction_flip_flip]

/-! Repeated steps of the duty. -/

/-- An operation that answers in every state answers however often it is repeated. -/
theorem repeatExec_eq_iterate {i : Instr} {f : State → State} (hexec : ∀ s, exec i s = .next (f s)) (n : Nat)
    (s : State) : repeatExec i n s = some (f^[n] s) := by
  induction n generalizing s with
  | zero => rfl
  | succ n ih => simp only [repeatExec, hexec, ih, Function.iterate_succ_apply]

theorem iterate_writesDutyAndChg {f : State → State} (hf : ∀ s, WritesDutyAndChg s (f s)) (n : Nat) (s : State) :
    WritesDutyAndChg s (f^[n] s) := by
  induction n generalizing s with
  | zero => rfl
  | succ n ih => exact (hf s).trans (ih (f s))

/-- An increase of a legal duty saturates at 100: the legal duties below 100 are at most 90. -/
theorem increaseDuty_toNat {s : State} (hd : DutyLegal s.duty) :
    (increaseDuty s).duty.toNat = min 100 (s.duty.toNat + 10) := by
  obtain ⟨hle, hmod⟩ := hd
  rcases lt_or_ge s.duty.toNat 100 with h | h
  · rw [increaseDuty_of_lt h, toNat_ofNat_duty _ (by omega)]
    omega
  · rw [increaseDuty_of_ge h]
    omega

theorem iterate_increaseDuty_toNat (n : Nat) {s : State} (hd : DutyLegal s.duty) :
    (increaseDuty^[n] s).duty.toNat = min 100 (s.duty.toNat + 10 * n) := by
  induction n generalizing s with
  | zero =>
    obtain ⟨hle, -⟩ := hd
    exact (min_eq_right hle).symm
  | succ n ih =>
    have hlegal : DutyLegal (increaseDuty s).duty := by
      rw [increaseDuty_duty]
      exact dutyAfterInc_legal true s.duty hd
    rw [Function.iterate_succ_apply, ih hlegal, increaseDuty_toNat hd]
    omega

theorem iterate_decreaseDuty_toNat (n : Nat) (s : State) :
    (decreaseDuty^[n] s).duty.toNat = s.duty.toNat - 10 * n := by
  induction n generalizing s with
  | zero => rfl
  | succ n ih =>
    rw [Function.iterate_succ_apply, ih, decreaseDuty_toNat]
    omega

/-- Settles O18, by induction on the number of steps: a step keeps the duty legal, and its own bound is absorbed in the
bound of the steps that follow. -/
theorem repeatedDutySteps : Obligations.RepeatedDutySteps := by
  intro n s hd
  exact ⟨⟨increaseDuty^[n] s, repeatExec_eq_iterate (fun _ => exec_dutyInc_eq_next.2 rfl) n s,
      iterate_writesDutyAndChg increaseDuty_writesDutyAndChg n s, iterate_increaseDuty_toNat n hd⟩,
    ⟨decreaseDuty^[n] s, repeatExec_eq_iterate (fun _ => exec_dutyDec_eq_next.2 rfl) n s,
      iterate_writesDutyAndChg decreaseDuty_writesDutyAndChg n s, iterate_decreaseDuty_toNat n s⟩⟩

/-! The change flag of a pass. -/

/-- An increase that runs leaves a duty above 0, at 100 too, where it changes nothing. -/
theorem dutyAfterInc_pos_iff (runs : Bool) (d : BitVec 7) :
    0 < (dutyAfterInc runs d).toNat ↔ 0 < d.toNat ∨ runs = true := by
  cases runs with
  | false => simp [dutyAfterInc]
  | true =>
    refine iff_of_true ?_ (.inr rfl)
    rcases lt_or_ge d.toNat 100 with h | h
    · have hinc : dutyAfterInc true d = BitVec.ofNat 7 (d.toNat + 10) := by simp [dutyAfterInc, h]
      rw [hinc, toNat_ofNat_duty _ (by omega)]
      omega
    · have hstays : dutyAfterInc true d = d := by simp [dutyAfterInc, h]
      rw [hstays]
      omega

/-- The OR of the reports of the duty phase, in the buttons that fired (41_duty_controller.md R72). -/
theorem dutyChanges_firedVector_iff (st : Stimulus) (s : State) :
    dutyChanges (firedVector st s) s.duty = true ↔
      (firedBy st s .speedUp = true ∧ s.duty.toNat < 100) ∨
        (firedBy st s .speedDown = true ∧ (0 < s.duty.toNat ∨ firedBy st s .speedUp = true)) ∨
        firedBy st s .dirToggle = true := by
  simp only [dutyChanges, buttonBit_firedVector, Bool.or_eq_true, Bool.and_eq_true, decide_eq_true_eq,
    dutyAfterInc_pos_iff, or_assoc]

theorem render_mem_commitEvents (s : State) : Event.render s.duty s.dir ∈ commitEvents s := by
  simp [commitEvents]

theorem render_notMem_settles (st : Stimulus) (s : State) (d : BitVec 7) (dir : Direction) :
    Event.render d dir ∉ settles st s := by
  simp [settles]

/-- Settles O34: `CHG` is the OR of the reports of the duty phase, whether or not a commit follows; only a commit renders,
and it renders the `DUTY` and `DIR` the duty phase left. -/
theorem passChangeFlagIsOrOfReports : Obligations.PassChangeFlagIsOrOfReports := by
  intro st s hseen hfault hv hd
  have hchg := dutyChanges_firedVector_iff st s
  cases hc : dutyChanges (firedVector st s) s.duty with
  | true =>
    refine ⟨_, settles st s ++ commitEvents (afterDuty st s),
      exec_pass_eq_next.2 ⟨hseen, hfault, (runPass_of_chg st s hv hd hc).symm⟩, List.append_assoc .., hchg, ?_⟩
    exact iff_of_true hc (List.mem_append_right _ (render_mem_commitEvents (afterDuty st s)))
  | false =>
    refine ⟨_, settles st s, exec_pass_eq_next.2 ⟨hseen, hfault, (runPass_of_not_chg st s hc).symm⟩, rfl, hchg, ?_⟩
    exact iff_of_false (Bool.eq_false_iff.1 hc) (render_notMem_settles st s _ _)

end Sys2Proof.Machine

/-! PROOFS. The PWM translator (42_pwm_translator.md): the value of a duty (R74, R79), the register pairs that `PWM_INIT`
and `PWM_APPLY` commit (R75, R76, R78, R80), and the timer (R77). -/

namespace Sys2Proof.Machine

/-! The value of a duty. -/

/-- The value of duty 100: `4*(PERIOD+1)` for 10 bits, `PERIOD` for 8 (42_pwm_translator.md R79). -/
def pwmFullScale (cfg : Config) : Nat :=
  if cfg.res = 10 then 4 * (cfg.period + 1) else cfg.period

theorem pwmFullScale_ten {cfg : Config} (hr : cfg.res = 10) : pwmFullScale cfg = 4 * (cfg.period + 1) :=
  if_pos hr

theorem pwmFullScale_eight {cfg : Config} (hr : cfg.res = 8) : pwmFullScale cfg = cfg.period :=
  if_neg (by omega)

/-- In either resolution the value is the full scale's share of the duty, rounded down (42_pwm_translator.md R74). -/
theorem pwmValue_of_valid {cfg : Config} (hv : ConfigValid cfg) (d : Nat) :
    pwmValue cfg d = some (d * pwmFullScale cfg / 100) := by
  obtain ⟨-, hr | hr, -⟩ := (configValid_iff cfg).1 hv
  · rw [pwmValue_eight cfg hr, pwmFullScale_eight hr]
  · rw [pwmValue_ten cfg hr, pwmFullScale_ten hr, Nat.mul_assoc]

theorem pwmValue_zero {cfg : Config} (hv : ConfigValid cfg) : pwmValue cfg 0 = some 0 := by
  rw [pwmValue_of_valid hv, Nat.zero_mul, Nat.zero_div]

theorem pwmValue_hundred {cfg : Config} (hv : ConfigValid cfg) : pwmValue cfg 100 = some (pwmFullScale cfg) := by
  rw [pwmValue_of_valid hv, Nat.mul_div_cancel_left _ (by decide)]

theorem percentage_mono {d e : Nat} (k : Nat) (hde : d ≤ e) : d * k / 100 ≤ e * k / 100 :=
  Nat.div_le_div_right (Nat.mul_le_mul_right k hde)

theorem percentage_le {d : Nat} (k : Nat) (hd : d ≤ 100) : d * k / 100 ≤ k :=
  Nat.div_le_of_le_mul (Nat.mul_le_mul_right k hd)

/-- Settles O19: a value is the duty's percentage of the full scale, and the check bounds the full scale. -/
theorem pwmValueFitsRegisters : Obligations.PwmValueFitsRegisters := by
  intro cfg d e hv hde he
  obtain ⟨-, -, h10, h8, -⟩ := (configValid_iff cfg).1 hv
  have hle : e * pwmFullScale cfg / 100 ≤ pwmFullScale cfg := percentage_le _ he
  refine ⟨_, _, pwmValue_of_valid hv d, pwmValue_of_valid hv e, percentage_mono _ hde, fun hr => ?_, fun hr => ?_⟩
  · have hperiod := h10 hr
    have hscale := pwmFullScale_ten hr
    refine ⟨hperiod, hscale ▸ hle, by omega, ?_, Nat.and_le_right, pwmValue_zero hv, hscale ▸ pwmValue_hundred hv⟩
    rw [Nat.shiftRight_eq_div_pow]
    omega
  · have hscale := pwmFullScale_eight hr
    exact ⟨hle.trans_eq hscale, h8 hr, pwmValue_zero hv, hscale ▸ pwmValue_hundred hv⟩

/-! The commit of a register pair. -/

section Pair

variable {c d : Chan} {s : State}

/-- A commit writes the channels and the trace alone (10_state.md R30). -/
theorem commitPair_frame (c : Chan) (cmp mode : Byte) (s : State) : commitPair c cmp mode s =
    { s with
      ch0 := (commitPair c cmp mode s).ch0
      ch1 := (commitPair c cmp mode s).ch1
      trace := (commitPair c cmp mode s).trace } :=
  match c with
  | 0 => rfl
  | 1 => rfl

theorem commitPair_chan_of_ne (cmp mode : Byte) (h : d ≠ c) : (commitPair c cmp mode s).chan d = s.chan d := by
  rw [commitPair_chan, if_neg h]

theorem commitPair_trace (c : Chan) (cmp mode : Byte) (s : State) :
    (commitPair c cmp mode s).trace = s.trace ++ [.pwmw c cmp mode] := by
  rw [commitPair_eq]

/-- The two low bits of a number, as a byte. -/
theorem setWidth_ofNat_two (p : Nat) : (BitVec.ofNat 2 p).setWidth 8 = BitVec.ofNat 8 (p &&& 0b11) := by
  apply BitVec.eq_of_toNat_eq
  rw [Nat.and_two_pow_sub_one_eq_mod p 2]
  simp

/-- A 10-bit commit replaces the duty sub-field of the mode register (42_pwm_translator.md R75, 20_memory.md R42). -/
theorem committedChannel_mode_ten (hv : ConfigValid s.cfg) (hr : s.cfg.res = 10) :
    (committedChannel s c).mode = clearDsub s.cfg (s.chan c).mode |||
      (BitVec.ofNat 8 ((s.duty.toNat * 4 * (s.cfg.period + 1) / 100) &&& 0b11) <<< s.cfg.modeShift) := by
  obtain ⟨-, -, -, -, hk, -⟩ := (configValid_iff s.cfg).1 hv
  rw [committedChannel, newMode_ten s.cfg hr hk, Option.getD_some, setWidth_ofNat_two]

/-- The compare register holds the upper eight bits of a 10-bit value without loss (42_pwm_translator.md R79). -/
theorem committedChannel_cmp_toNat_ten (hv : ConfigValid s.cfg) (hr : s.cfg.res = 10) (hd : s.duty.toNat ≤ 100) :
    (committedChannel s c).cmp.toNat = (s.duty.toNat * 4 * (s.cfg.period + 1) / 100) >>> 2 := by
  obtain ⟨-, -, hperiod, -⟩ := (configValid_iff s.cfg).1 hv
  have hle := ten_bit_value_le s.duty.toNat s.cfg.period hd (hperiod hr)
  rw [committedChannel_cmp_ten hv hr hd, BitVec.toNat_ofNat, Nat.shiftRight_eq_div_pow]
  omega

end Pair

/-- Settles O20: the application is one commit, of the pair that R75 gives in each resolution. -/
theorem pwmApplyWritesPair : Obligations.PwmApplyWritesPair := by
  intro c s hv hc hd
  refine ⟨_, exec_pwmApply_of_valid hv hc hd, commitPair_frame c _ _ s, fun _ => commitPair_chan_of_ne _ _, ?_⟩
  rw [commitPair_trace, commitPair_chan_same]
  refine ⟨rfl, fun hr => ?_, fun hr => ?_, rfl⟩
  · exact ⟨committedChannel_cmp_toNat_ten (c := c) hv hr hd, committedChannel_mode_ten hv hr⟩
  · exact ⟨committedChannel_cmp_eight (c := c) hv hr hd, committedChannel_mode_eight hr⟩

/-- Settles O26: the initialization is one commit, of a mode register with a cleared sub-field. -/
theorem pwmInitClearsSubfield : Obligations.PwmInitClearsSubfield := by
  intro c s hc
  refine ⟨_, exec_pwmInit_eq_next.2 ⟨hc, rfl⟩, commitPair_frame c _ _ s, fun _ => commitPair_chan_of_ne _ _, ?_⟩
  rw [initPwm_eq, commitPair_trace, commitPair_chan_same]
  refine ⟨rfl, rfl, rfl, rfl, fun hv => ?_⟩
  obtain ⟨-, -, -, -, hk, -⟩ := (configValid_iff s.cfg).1 hv
  exact dsub_clearDsub _ hk _

/-! Particular duties. -/

/-- A block of `BlockInv` that has no fault after a `RESET` is in normal operation (10_state.md R31). -/
theorem operating_of_blockInv {s : State} (hinv : BlockInv s) (hseen : s.resetSeen = true) (hnone : s.fault = faultNone) :
    Operating s := by
  rcases hinv hseen with hop | ⟨hcf, -⟩
  · exact hop
  · exact absurd (hnone.symm.trans hcf) (by decide)

/-- Settles O23: the value of duty 0 is 0, which a 10-bit block splits over both registers and an 8-bit block writes beside
the sub-field of 0 that it keeps. -/
theorem zeroDutyGivesZeroOutput : Obligations.ZeroDutyGivesZeroOutput := by
  intro c s hinv hseen hnone hc hzero
  obtain ⟨-, -, hv, ⟨hd, -⟩, -, -, hsound⟩ := operating_of_blockInv hinv hseen hnone
  obtain ⟨-, -, hdsub⟩ := hsound c ((mem_channels _ _).2 hc)
  have hvalue : pwmValue s.cfg s.duty.toNat = some 0 := hzero ▸ pwmValue_zero hv
  obtain ⟨-, hr | hr, -⟩ := (configValid_iff s.cfg).1 hv
  · obtain ⟨t, p, hp, hx, hcmp, -, ht, -⟩ := eightBitPairReadsShifted c s hv hr hc hd (hdsub hr)
    obtain rfl := Option.some.inj (hvalue.symm.trans hp)
    exact ⟨t, hx, BitVec.eq_of_toNat_eq hcmp, ht⟩
  · obtain ⟨t, p, hp, hx, hcmp, ht, -⟩ := tenBitSplitReadsBack c s hv hr hc hd
    obtain rfl := Option.some.inj (hvalue.symm.trans hp)
    exact ⟨t, hx, BitVec.eq_of_toNat_eq hcmp, BitVec.eq_of_toNat_eq ht⟩

/-- Settles O24: a value is five times the duty, and five times ten is 50, which is 2 modulo 4. -/
theorem exactValuesAtPeriod124 : Obligations.ExactValuesAtPeriod124 := by
  rintro c s hv hr hperiod hc ⟨hd, hmod⟩
  have hvalue : pwmValue s.cfg s.duty.toNat = some (5 * s.duty.toNat) := by
    rw [pwmValue_ten s.cfg hr, hperiod, Option.some.injEq]
    omega
  obtain ⟨t, p, hp, hx, hcmp, hdsub, -⟩ := tenBitSplitReadsBack c s hv hr hc hd
  obtain rfl := Option.some.inj (hvalue.symm.trans hp)
  refine ⟨t, hx, hvalue, hcmp, hdsub, ?_⟩
  rw [hdsub, Nat.and_two_pow_sub_one_eq_mod _ 2]
  split <;> omega

/-! The timer. -/

/-- Settles O27: the operation is the write of `TMR_EN` and its event. -/
theorem tmrStartEnablesTimer : Obligations.TmrStartEnablesTimer :=
  fun s => exec_tmrStart_eq_next.2 (startTimer_eq s).symm

end Sys2Proof.Machine

/-! PROOFS. The direction driver (43_direction_driver.md): the pattern that `DIR_APPLY` writes (R83), the direction writes
of every step (R84), and two toggles (R86). -/

namespace Sys2Proof.Machine

/-! One application. -/

/-- An application writes the channels and the trace alone (10_state.md R30). -/
theorem applyDir_frame (c : Chan) (s : State) : applyDir c s =
    { s with ch0 := (applyDir c s).ch0, ch1 := (applyDir c s).ch1, trace := (applyDir c s).trace } :=
  match c with
  | 0 => rfl
  | 1 => rfl

theorem applyDir_chan_same (c : Chan) (s : State) :
    (applyDir c s).chan c = { s.chan c with pins := dirPins s.dir } := by
  rw [applyDir_chan, if_pos rfl]

theorem applyDir_chan_of_ne {c d : Chan} (s : State) (h : d ≠ c) : (applyDir c s).chan d = s.chan d := by
  rw [applyDir_chan, if_neg h]

theorem applyDir_trace (c : Chan) (s : State) : (applyDir c s).trace = s.trace ++ [.dirw c (dirPins s.dir)] := by
  rw [applyDir_eq]

/-- Settles O29: the two lines take the pattern of `DIR` in one write, and the event carries that pattern. -/
theorem dirApplySetsPattern : Obligations.DirApplySetsPattern := by
  intro c s hc
  refine ⟨applyDir c s, exec_dirApply_eq_next.2 ⟨hc, rfl⟩, applyDir_frame c s, fun _ => applyDir_chan_of_ne s, ?_⟩
  rw [applyDir_chan_same, applyDir_trace]
  exact ⟨rfl, rfl, congrArg dirPins, congrArg dirPins, rfl⟩

/-! The direction writes of a step. -/

/-- What R84 asks of an event: a direction write asserts exactly one line, and no other event speaks of the lines. -/
@[simp] def DirectionLegal : Event → Prop
  | .dirw _ pins => PinsLegal pins
  | .settle _ | .pwmw _ _ _ | .tmrw | .render _ _ | .faultw _ => True

/-- Every event of the trace is legal for the lines. -/
def TraceLegal (s : State) : Prop :=
  ∀ e ∈ s.trace, DirectionLegal e

theorem settles_directionLegal (st : Stimulus) (s : State) : ∀ e ∈ settles st s, DirectionLegal e := by
  intro e he
  obtain ⟨b, -, rfl⟩ := List.mem_map.1 he
  trivial

theorem resetEvents_directionLegal (cfg : Config) : ∀ e ∈ resetEvents cfg, DirectionLegal e := by
  simp [resetEvents, PinsLegal, or_imp, forall_and]

section TraceLegal

variable {s t : State} (hs : TraceLegal s)

include hs

theorem traceLegal_of_append {events : List Event} (htrace : t.trace = s.trace ++ events)
    (hevents : ∀ e ∈ events, DirectionLegal e) : TraceLegal t := by
  rw [TraceLegal, htrace, List.forall_mem_append]
  exact ⟨hs, hevents⟩

theorem traceLegal_of_emit {e : Event} (htrace : t.trace = s.trace ++ [e]) (he : DirectionLegal e) : TraceLegal t :=
  traceLegal_of_append hs htrace (List.forall_mem_singleton.2 he)

theorem traceLegal_of_eq (htrace : t.trace = s.trace) : TraceLegal t := by
  rwa [TraceLegal, htrace]

theorem traceLegal_pollButton (b : Button) (l : Bool) : TraceLegal (pollButton b l s) := by
  refine traceLegal_of_append hs (pollButton_trace b l s) ?_
  split <;> simp

theorem traceLegal_applyPwm (c : Chan) : TraceLegal (applyPwm c s) := by
  obtain ⟨x, y, k, h⟩ := applyPwm_cases c s
  rw [h]
  exact traceLegal_of_emit hs (commitPair_trace c x y s) trivial

/-- The driver writes patterns of `DIR` only, each of which asserts one line (43_direction_driver.md R83). -/
theorem traceLegal_applyDir (c : Chan) : TraceLegal (applyDir c s) :=
  traceLegal_of_emit hs (applyDir_trace c s) (dirPins_legal s.dir)

theorem traceLegal_requestRender : TraceLegal (requestRender s) :=
  traceLegal_of_emit hs rfl trivial

theorem traceLegal_runPass (st : Stimulus) : TraceLegal (runPass st s) := by
  have hduty : TraceLegal (afterDuty st s) := traceLegal_of_append hs rfl (settles_directionLegal st s)
  rw [runPass_eq]
  refine traceLegal_of_eq ?_ (State.setPhase_trace _ _)
  split
  · exact commitOutputs_induction hduty (fun _ _ ht => ht) (fun _ c ht => traceLegal_applyPwm ht c)
      (fun _ c ht => traceLegal_applyDir ht c) (fun _ ht => traceLegal_requestRender ht)
  · exact hduty

theorem traceLegal_checkConfig : TraceLegal (checkConfig s) := by
  cases h : cfgError s.cfg with
  | none => exact traceLegal_of_eq hs (by rw [checkConfig_of_valid s h])
  | some e =>
    rw [checkConfig_of_error s e h]
    exact traceLegal_of_emit hs (takeConfigFault_trace e s) trivial

theorem traceLegal_resetResult : TraceLegal (resetResult s) := by
  cases h : cfgError s.cfg with
  | none => exact traceLegal_of_append hs (by rw [resetResult_of_valid s h]) (resetEvents_directionLegal s.cfg)
  | some e =>
    rw [resetResult_of_error s e h]
    exact traceLegal_of_emit hs (takeConfigFault_trace e _) trivial

/-- No operation adds an illegal direction write, whatever the state and the configuration (43_direction_driver.md R84). -/
theorem exec_traceLegal {i : Instr} (hx : exec i s = .next t) : TraceLegal t := by
  cases i with
  | reset =>
    obtain rfl := exec_reset_eq_next.1 hx
    exact traceLegal_resetResult hs
  | debPoll b l =>
    obtain rfl := exec_debPoll_eq_next.1 hx
    exact traceLegal_pollButton hs b l
  | dutyInc =>
    obtain rfl := exec_dutyInc_eq_next.1 hx
    exact traceLegal_of_eq hs (by rw [increaseDuty_writesDutyAndChg s])
  | dutyDec =>
    obtain rfl := exec_dutyDec_eq_next.1 hx
    exact traceLegal_of_eq hs (by rw [decreaseDuty_writesDutyAndChg s])
  | dirToggle =>
    obtain rfl := exec_dirToggle_eq_next.1 hx
    exact traceLegal_of_eq hs rfl
  | pwmInit c =>
    obtain ⟨-, rfl⟩ := exec_pwmInit_eq_next.1 hx
    exact traceLegal_of_emit hs (commitPair_trace c _ _ s) trivial
  | pwmApply c =>
    obtain ⟨-, rfl⟩ := exec_pwmApply_eq_next.1 hx
    exact traceLegal_applyPwm hs c
  | dirApply c =>
    obtain ⟨-, rfl⟩ := exec_dirApply_eq_next.1 hx
    exact traceLegal_applyDir hs c
  | tmrStart =>
    obtain rfl := exec_tmrStart_eq_next.1 hx
    exact traceLegal_of_emit hs rfl trivial
  | renderReq =>
    obtain rfl := exec_renderReq_eq_next.1 hx
    exact traceLegal_requestRender hs
  | pass st =>
    obtain ⟨-, -, rfl⟩ := exec_pass_eq_next.1 hx
    exact traceLegal_runPass hs st
  | cfgCheck =>
    obtain rfl := exec_cfgCheck_eq_next.1 hx
    exact traceLegal_checkConfig hs

end TraceLegal

/-- A step begins with no event, so none of its events is illegal, those before its end among them. -/
theorem traceLegal_beginStep (s : State) (rest : List Request) : TraceLegal (s.beginStep rest) := by
  simp [TraceLegal]

/-- Settles O30: a step starts with an empty trace, and its operation adds legal direction writes only. -/
theorem everyDirectionWriteIsLegal : Obligations.EveryDirectionWriteIsLegal := by
  intro s t c p hstep hmem
  have ht : TraceLegal t := by
    rcases step_next_cases s t hstep with ⟨-, rfl⟩ | ⟨_, rest, _, -, -, -, hx⟩
    · exact traceLegal_beginStep s []
    · exact exec_traceLegal (traceLegal_beginStep s rest) hx
  exact ht _ hmem

/-! Two toggles. -/

/-- A step boundary of a block in normal operation whose words are the environment's (10_state.md R31). -/
structure NormalBoundary (s : State) : Prop where
  inv : BoundaryInv s
  resetSeen : s.resetSeen = true
  fault : s.fault = faultNone

section Toggles

variable {st : Stimulus} {s : State} {c : Chan}

/-- A pass that samples an armed toggle button pressed turns the direction (41_duty_controller.md R70). -/
theorem afterPass_dir_of_press (harmed : s.srBit .dirToggle = true) (hpress : level st .dirToggle = false) :
    (afterPass st s).dir = Direction.flip s.dir := by
  have hfires : firedBy st s .dirToggle = true := by rw [firedBy, hpress, harmed]; rfl
  exact (runPass_dir st _).trans (if_pos hfires)

/-- A pass that samples the toggle button released keeps the direction (40_debounce.md R64). -/
theorem afterPass_dir_of_release (hrelease : level st .dirToggle = true) : (afterPass st s).dir = s.dir := by
  have hquiet : ¬firedBy st s .dirToggle = true := by simp [firedBy, hrelease]
  exact (runPass_dir st _).trans (if_neg hquiet)

@[simp] theorem afterPass_cfg (st : Stimulus) (s : State) : (afterPass st s).cfg = s.cfg := by
  obtain ⟨_, _, _, _, -, h⟩ := runPass_frame st (s.beginStep [])
  rw [afterPass, h]
  rfl

/-- At a step boundary the lines of every channel show `DIR` (10_state.md R31). -/
theorem NormalBoundary.pins_eq (h : NormalBoundary s) (hc : c ∈ channels s.cfg) :
    (s.chan c).pins = dirPins s.dir := by
  obtain ⟨⟨-, -, hout⟩, hseen, hfault⟩ := h
  exact (hout hseen hfault c hc).1

/-- A pass is a step of the environment's, so it ends at a step boundary again (44_control_pass.md R98). -/
theorem normalBoundary_afterPass (h : NormalBoundary s) (st : Stimulus) : NormalBoundary (afterPass st s) := by
  obtain ⟨⟨hblock, -, hout⟩, hseen, hfault⟩ := h
  have hpresented : BoundaryInv (s.presentOnly (encode (.pass st))) := ⟨hblock, List.forall_mem_singleton.2 rfl, hout⟩
  have hstep : step (s.presentOnly (encode (.pass st))) = .next (afterPass st s) :=
    (step_presentOnly_of_isStep s rfl).trans (exec_pass_eq_next.2 ⟨hseen, hfault, rfl⟩)
  exact ⟨everyStepKeepsBoundaryInv _ _ hpresented hstep, by simpa, by simpa⟩

/-- After a pass the lines of every channel show the direction it leaves (44_control_pass.md R98). -/
theorem afterPass_pins (h : NormalBoundary s) (st : Stimulus) (hc : c ∈ channels s.cfg) :
    ((afterPass st s).chan c).pins = dirPins (afterPass st s).dir :=
  (normalBoundary_afterPass h st).pins_eq (by simpa using hc)

end Toggles

/-- Settles O31: the presses of the first and third pass each turn the direction, the release between them arms the
debouncer again, and at every boundary the lines show the direction. -/
theorem twoTogglesRestorePins : Obligations.TwoTogglesRestorePins := by
  intro s st1 st2 st3 hinv hseen hfault harmed hpress hrelease hagain
  have h0 : NormalBoundary s := ⟨hinv, hseen, hfault⟩
  have h1 := normalBoundary_afterPass h0 st1
  have h2 := normalBoundary_afterPass h1 st2
  have hturned : (afterPass st1 s).dir = Direction.flip s.dir := afterPass_dir_of_press harmed hpress
  have hrestored : (afterPass st3 (afterPass st2 (afterPass st1 s))).dir = s.dir := by
    rw [afterPass_dir_of_press ((afterPass_srBit _ _ _).trans hrelease) hagain, afterPass_dir_of_release hrelease,
      hturned, direction_flip_flip]
  have hpasses : passStates [st1, st2, st3] s =
      [afterPass st1 s, afterPass st2 (afterPass st1 s), afterPass st3 (afterPass st2 (afterPass st1 s))] := by
    rw [passStates_cons st1 hseen hfault, passStates_cons st2 h1.resetSeen h1.fault,
      passStates_cons st3 h2.resetSeen h2.fault, passStates]
  refine ⟨_, _, _, hpasses, hturned, hrestored, fun c hc => ⟨?_, ?_⟩⟩
  · rw [afterPass_pins h0 st1 hc, hturned]
  · rw [afterPass_pins h2 st3 (by simpa using hc), hrestored, h0.pins_eq hc]

end Sys2Proof.Machine

/-! PROOFS. The control pass (44_control_pass.md): its polls (R91), the operations of the fired buttons (R90), the order of its
events (R92), a pass that does not commit (R94) and one that does (R98), passes without end (R97); the render request (R93). -/

namespace Sys2Proof.Machine

/-- Settles O42: the request is its event. -/
theorem renderRequestCarriesState : Obligations.RenderRequestCarriesState :=
  fun s => exec_renderReq_eq_next.2 (requestRender_eq s).symm

/-! The registers a pass leaves. -/

section PassRegisters

variable (st : Stimulus) (s : State)

@[simp] theorem runPass_cfg : (runPass st s).cfg = s.cfg := by
  obtain ⟨_, _, _, _, -, h⟩ := runPass_frame st s
  rw [h]
  rfl

@[simp] theorem runPass_phase : (runPass st s).phase = .idle := rfl

/-- A pass leaves `EV` as its polls wrote it (44_control_pass.md R91). -/
theorem runPass_evBit (b : Button) : (runPass st s).evBit b = firedBy st s b := by
  obtain ⟨_, _, _, _, -, h⟩ := runPass_frame st s
  rw [h]
  exact buttonBit_firedVector st s b

/-- A pass leaves `CHG` as its duty phase wrote it (41_duty_controller.md R72). -/
theorem runPass_chg : (runPass st s).chg = dutyChanges (firedVector st s) s.duty := by
  obtain ⟨_, _, _, _, -, h⟩ := runPass_frame st s
  rw [h]
  rfl

end PassRegisters

/-- Settles O32: the poll phase fixes `SR` and `EV`, and no later phase writes them. -/
theorem passPollsEveryButton : Obligations.PassPollsEveryButton := by
  intro st s hseen hfault
  exact ⟨runPass st s, exec_pass_eq_next.2 ⟨hseen, hfault, rfl⟩, runPass_phase st s,
    fun b => ⟨runPass_srBit st s b, runPass_evBit st s b⟩⟩

/-! The operations of the fired buttons. -/

theorem dutyAfterInc_toNat (runs : Bool) (d : BitVec 7) :
    (dutyAfterInc runs d).toNat = if runs = true ∧ d.toNat < 100 then d.toNat + 10 else d.toNat := by
  simp only [dutyAfterInc, Bool.and_eq_true, decide_eq_true_eq]
  split
  next h => exact toNat_ofNat_duty _ (by omega)
  next => rfl

theorem dutyAfterDec_toNat (runs : Bool) (d : BitVec 7) :
    (dutyAfterDec runs d).toNat = if runs = true ∧ 0 < d.toNat then d.toNat - 10 else d.toNat := by
  simp only [dutyAfterDec, Bool.and_eq_true, decide_eq_true_eq]
  split
  next => exact toNat_ofNat_duty _ (by omega)
  next => rfl

/-- Settles O33: the decrease takes the duty that the increase left, and neither value leaves the seven bits of `DUTY`. -/
theorem passAppliesFiredOperations : Obligations.PassAppliesFiredOperations := by
  intro st s hseen hfault _
  refine ⟨runPass st s, exec_pass_eq_next.2 ⟨hseen, hfault, rfl⟩, ?_, runPass_dir st s⟩
  rw [runPass_duty, dutyAfter, dutyAfterDec_toNat, dutyAfterInc_toNat, buttonBit_firedVector, buttonBit_firedVector]

/-! The commit of a pass. -/

/-- The events of a commit as the registers it leaves show them (44_control_pass.md R92, R98). -/
def shownEvents (t : State) : List Event :=
  (channels t.cfg).map (fun c => .pwmw c (t.chan c).cmp (t.chan c).mode) ++
    (channels t.cfg).map (fun c => .dirw c (t.chan c).pins) ++ [.render t.duty t.dir]

/-- A commit's events carry the values that a state with its registers holds. -/
theorem commitEvents_eq_shownEvents {s t : State} (hcfg : t.cfg = s.cfg) (hduty : t.duty = s.duty) (hdir : t.dir = s.dir)
    (hchan : ∀ c ∈ channels s.cfg, t.chan c = committedChannel s c) : commitEvents s = shownEvents t := by
  have hpwm : (channels s.cfg).map (fun c => Event.pwmw c (t.chan c).cmp (t.chan c).mode) =
      (channels s.cfg).map (fun c => Event.pwmw c (committedChannel s c).cmp (committedChannel s c).mode) :=
    List.map_congr_left fun c hc => by rw [hchan c hc]
  have hpins : (channels s.cfg).map (fun c => Event.dirw c (t.chan c).pins) =
      (channels s.cfg).map (fun c => Event.dirw c (dirPins s.dir)) :=
    List.map_congr_left fun c hc => by rw [hchan c hc, committedChannel]
  rw [shownEvents, commitEvents, hcfg, hduty, hdir, hpwm, hpins]

section PassCommit

variable {st : Stimulus} {s : State}

/-- A committing pass leaves every channel of the block with the committed registers (44_control_pass.md R92). -/
theorem runPass_chan_of_chg {c : Chan} (hv : ConfigValid s.cfg) (hd : DutyLegal s.duty)
    (hchg : (runPass st s).chg = true) (hc : c ∈ channels s.cfg) :
    (runPass st s).chan c = committedChannel (afterDuty st s) c := by
  have hex : channelExists (afterDuty st s).cfg c = true := (mem_channels _ _).1 hc
  rw [runPass_chg] at hchg
  rw [runPass_chan st s c hv hd, if_pos hchg, channelAfterCommit, if_pos hex]

/-- The trace of a pass: its settles, and after them a commit's events exactly when `CHG` is 1 (44_control_pass.md R92). -/
theorem runPass_trace (hv : ConfigValid s.cfg) (hd : DutyLegal s.duty) :
    (runPass st s).trace =
      s.trace ++ settles st s ++ if (runPass st s).chg = true then shownEvents (runPass st s) else [] := by
  cases hchg : (runPass st s).chg with
  | true =>
    have hshown : commitEvents (afterDuty st s) = shownEvents (runPass st s) :=
      commitEvents_eq_shownEvents (runPass_cfg st s) (runPass_duty st s) (runPass_dir st s)
        fun c hc => runPass_chan_of_chg hv hd hchg hc
    rw [if_pos rfl, ← hshown, runPass_of_chg st s hv hd (runPass_chg st s ▸ hchg)]
  | false =>
    rw [if_neg Bool.false_ne_true, List.append_nil, runPass_of_not_chg st s (runPass_chg st s ▸ hchg)]
    rfl

end PassCommit

/-- Settles O35: `runPass_trace`, the configuration being that of the state before. -/
theorem passCommitsInOrder : Obligations.PassCommitsInOrder := by
  intro st s hseen hfault hv hd
  refine ⟨runPass st s, exec_pass_eq_next.2 ⟨hseen, hfault, rfl⟩, ?_⟩
  rw [runPass_trace hv hd, shownEvents, runPass_cfg]

/-- Settles O36: without a report of the duty phase `DUTY` and `DIR` are as before, and the commit phase does nothing. -/
theorem passWithoutChangeKeepsOutputs : Obligations.PassWithoutChangeKeepsOutputs := by
  intro st s t hx hchg
  obtain ⟨-, -, rfl⟩ := exec_pass_eq_next.1 hx
  rw [runPass_chg] at hchg
  obtain ⟨hduty, htoggle⟩ := dutyAfter_of_not_dutyChanges hchg
  rw [buttonBit_firedVector] at htoggle
  simp only [runPass_of_not_chg st s hchg, afterDuty, hduty, htoggle, hchg, Bool.false_eq_true, if_false]

/-- Settles O37: the commit writes both registers and the lines of every channel from the `DUTY` and `DIR` that the pass
leaves, and its last event renders them; the sub-field of an 8-bit block stays 0 as in every step. -/
theorem committingPassIsLockStep : Obligations.CommittingPassIsLockStep := by
  intro st s t hinv hx hchg
  obtain ⟨hseen, hfault, ht⟩ := exec_pass_eq_next.1 hx
  have hop : Operating s := operating_of_blockInv hinv hseen hfault
  obtain ⟨-, -, -, -, -, -, hsound⟩ := exec_operating hop hx
  obtain ⟨-, -, hv, hd, -, -, -⟩ := hop
  subst ht
  refine ⟨fun c hc => ⟨?_, ?_⟩, ?_⟩
  · have hchan := runPass_chan_of_chg hv hd hchg (runPass_cfg st s ▸ hc)
    exact committed_of_chan_eq (s := afterDuty st s) hv (dutyAfter_legal _ _ hd).1 (runPass_cfg st s) (runPass_duty st s)
      (runPass_dir st s) hchan
  · obtain ⟨-, -, hdsub⟩ := hsound c hc
    exact hdsub
  · rw [runPass_trace hv hd, if_pos hchg, shownEvents, ← List.append_assoc, List.getLast?_concat]

/-! Passes without end. -/

/-- In normal operation each of a sequence of passes ends in normal operation and idle (44_control_pass.md R97). -/
theorem passStates_normal {s : State} (hseen : s.resetSeen = true) (hfault : s.fault = faultNone) (sts : List Stimulus) :
    ∀ t ∈ passStates sts s, t.fault = faultNone ∧ t.phase = .idle := by
  induction sts generalizing s with
  | nil => exact fun _ h => absurd h List.not_mem_nil
  | cons st sts ih =>
    rw [passStates_cons st hseen hfault, List.forall_mem_cons]
    exact ⟨⟨by simpa, runPass_phase st _⟩, ih (by simpa) (by simpa)⟩

/-- Settles O38: a pass keeps `FAULT` and ends idle, so the next stimulus has its pass too. -/
theorem passesGoOnForEver : Obligations.PassesGoOnForEver :=
  fun sts _ hseen hfault => ⟨passStates_length hseen hfault sts, passStates_normal hseen hfault sts⟩

end Sys2Proof.Machine

/-! PROOFS. The exceptions (60_exceptions.md): the configuration check in the order of its checks (R101), the passes that have
no step (R102, R103), and a `RESET` with an invalid configuration (R102, R108). -/

namespace Sys2Proof.Machine

/-! The passes that have no step. -/

/-- Settles O40: the refusal is the first answer that a `PASS` considers. -/
theorem passBeforeResetRefused : Obligations.PassBeforeResetRefused :=
  fun _ _ hseen => exec_pass_refused hseen

/-- Settles O41: `CONFIG` is not `NONE`, and after a `RESET` a `PASS` is not refused. -/
theorem passStuckInConfigFault : Obligations.PassStuckInConfigFault :=
  fun _ _ hseen hfault => exec_pass_stuck hseen (by rw [hfault]; decide)

/-! The checks of `CFG_CHECK`. -/

/-- The range of `PERIOD`, which the resolution bounds (60_exceptions.md R101). -/
abbrev PeriodInRange (cfg : Config) : Prop :=
  (cfg.res = 10 → cfg.period ≤ 254) ∧ (cfg.res = 8 → cfg.period ≤ 255)

/-- The range of `MODE_INIT` of the channels that a block of one or two has (60_exceptions.md R101). -/
abbrev ModeInitInRange (cfg : Config) : Prop :=
  cfg.modeInit0 ≤ 255 ∧ (cfg.nCh = 2 → cfg.modeInit1 ≤ 255)

theorem period_check_iff (cfg : Config) :
    (cfg.res = 10 ∧ 4 * (cfg.period + 1) > 1023) ∨ (cfg.res = 8 ∧ cfg.period > 255) ↔ ¬PeriodInRange cfg := by
  rw [PeriodInRange]
  omega

theorem modeInit_check_iff {cfg : Config} (hn : cfg.nCh = 1 ∨ cfg.nCh = 2) :
    (channels cfg).any (fun c => decide (modeInit cfg c > 255)) = true ↔ ¬ModeInitInRange cfg := by
  rcases hn with hone | htwo
  · simp [channels_one cfg hone, modeInit, hone]
  · simp [channels_two cfg htwo, modeInit, htwo, imp_iff_not_or]

/-- Each check is made when the ones before it hold, the two bounds on `PERIOD` as one check (60_exceptions.md R101). -/
theorem cfgError_eq (cfg : Config) : cfgError cfg =
    if cfg.nCh = 1 ∨ cfg.nCh = 2 then
      if cfg.res = 8 ∨ cfg.res = 10 then
        if PeriodInRange cfg then
          if cfg.modeShift ≤ 6 then
            if ModeInitInRange cfg then none
            else some .modeInitRange
          else some .modeShiftRange
        else some .periodOverflow
      else some .resRange
    else some .nChRange := by
  rw [cfgError, ← ite_or]
  by_cases hn : cfg.nCh = 1 ∨ cfg.nCh = 2
  · have hshift : cfg.modeShift > 6 ↔ ¬cfg.modeShift ≤ 6 := not_le.symm
    rw [if_neg (not_not_intro hn), if_pos hn]
    simp only [period_check_iff, hshift, modeInit_check_iff hn, ite_not]
  · rw [if_pos hn, if_neg hn]

/-- What is seen of a check that fails: the code, the event and the name of the check (60_exceptions.md R100). -/
theorem checkConfig_raises {s : State} {e : CfgError} (h : cfgError s.cfg = some e) :
    ((checkConfig s).fault = faultConfig ∧ (checkConfig s).trace = s.trace ++ [.faultw faultConfig]) ∧
      (checkConfig s).faultInfo = some e := by
  rw [checkConfig_of_error s e h]
  exact ⟨⟨rfl, takeConfigFault_trace e s⟩, rfl⟩

/-- Settles O43: each clause fixes the branch of the cascade that the check takes. -/
theorem cfgCheckReportsFirstFailure : Obligations.CfgCheckReportsFirstFailure := by
  intro s
  refine ⟨checkConfig s, exec_cfgCheck_eq_next.2 rfl, checkConfig_cfg s, ?nCh, ?res, ?period, ?modeShift, ?modeInit, ?valid⟩
  case nCh =>
    exact fun hn => checkConfig_raises (by rw [cfgError_eq, if_neg hn])
  case res =>
    exact fun ⟨hn, hr⟩ => checkConfig_raises (by rw [cfgError_eq, if_pos hn, if_neg hr])
  case period =>
    exact fun ⟨hn, hr, hp⟩ => checkConfig_raises (by rw [cfgError_eq, if_pos hn, if_pos hr, if_neg hp])
  case modeShift =>
    exact fun ⟨hn, hr, hp, hk⟩ =>
      checkConfig_raises (by rw [cfgError_eq, if_pos hn, if_pos hr, if_pos hp, if_neg hk])
  case modeInit =>
    exact fun ⟨hn, hr, hp, hk, hm⟩ =>
      checkConfig_raises (by rw [cfgError_eq, if_pos hn, if_pos hr, if_pos hp, if_pos hk, if_neg hm])
  case valid =>
    exact fun ⟨hn, hr, hp, hk, hm⟩ =>
      checkConfig_of_valid s (by rw [ConfigValid, cfgError_eq, if_pos hn, if_pos hr, if_pos hp, if_pos hk, if_pos hm])

/-! A `RESET` with an invalid configuration. -/

/-- The only event of a `RESET` that stops is the fault's (60_exceptions.md R102). -/
theorem resetResult_trace_of_invalid {s : State} (hv : ¬ConfigValid s.cfg) :
    (resetResult s).trace = s.trace ++ [.faultw faultConfig] := by
  obtain ⟨e, he⟩ := Option.ne_none_iff_exists'.1 hv
  rw [resetResult_of_error s e he]
  exact takeConfigFault_trace e _

/-- Settles O47: the `RESET` that stops has happened and leaves the configuration as it was, so that a pass is stuck and a
further `RESET` stops again. -/
theorem invalidConfigResetFaults : Obligations.InvalidConfigResetFaults := by
  intro s hv
  have hv' : ¬ConfigValid (resetResult s).cfg := by rwa [resetResult_cfg]
  obtain ⟨hfault, -⟩ := configFaulted_resetResult hv
  obtain ⟨hfault', -⟩ := configFaulted_resetResult hv'
  exact ⟨resetResult s, resetResult (resetResult s), exec_reset_eq_next.2 rfl, hfault, resetResult_faultInfo s,
    resetResult_trace_of_invalid hv, fun st => passStuckInConfigFault st _ (resetResult_resetSeen s) hfault,
    exec_reset_eq_next.2 rfl, hfault', by rw [resetResult_faultInfo, resetResult_cfg], resetResult_trace_of_invalid hv'⟩

end Sys2Proof.Machine

/-! PROOFS. The reset and the hazards (70_reset_and_hazards.md): the state and the events a `RESET` leaves (R113, R114), from
power-on too (R115), whatever came before it; a button held through it (R124); the settle delay, which no rule reads (R126). -/

namespace Sys2Proof.Machine

/-! The state a `RESET` leaves with a valid configuration. -/

section ValidReset

variable {s : State}

/-- A `RESET` writes only the channels that the block has (70_reset_and_hazards.md R113; log 14). -/
theorem resetResult_chan_of_absent {c : Chan} (hv : ConfigValid s.cfg) (hc : c ∉ channels s.cfg) :
    (resetResult s).chan c = s.chan c := by
  rw [mem_channels] at hc
  match c with
  | 0 => exact absurd (channelExists_zero s.cfg hv) hc
  | 1 =>
    rw [resetResult_of_valid s hv]
    exact if_neg hc

/-- Every debouncer is armed by a `RESET` (70_reset_and_hazards.md R124). -/
theorem resetResult_srBit (hv : ConfigValid s.cfg) (b : Button) : (resetResult s).srBit b = true := by
  rw [resetResult_of_valid s hv]
  exact buttonBit_ones b

theorem resetResult_trace_of_valid (hv : ConfigValid s.cfg) :
    (resetResult s).trace = s.trace ++ resetEvents s.cfg := by
  rw [resetResult_of_valid s hv]

/-- The register pairs that the events of a `RESET` carry are those that the channels hold after it
(70_reset_and_hazards.md R113). -/
theorem resetEvents_eq_shown (hv : ConfigValid s.cfg) : resetEvents s.cfg =
    (channels s.cfg).map (fun c => .pwmw c ((resetResult s).chan c).cmp ((resetResult s).chan c).mode) ++ [.tmrw] ++
      (channels s.cfg).map (fun c => .dirw c 0b10) ++ [.render 0 .cw] := by
  have hpwm : (channels s.cfg).map
        (fun c => Event.pwmw c ((resetResult s).chan c).cmp ((resetResult s).chan c).mode) =
      (channels s.cfg).map (fun c => Event.pwmw c 0 (resetChannel s.cfg c).mode) :=
    List.map_congr_left fun c hc => by rw [resetResult_chan hv hc, resetChannel]
  rw [hpwm, resetEvents]

end ValidReset

/-- Settles O44: the registers that are no channel's are read off the state of the reset table, the channels are the reset
channels where the block has them, and the events show them. -/
theorem resetLeavesResetState : Obligations.ResetLeavesResetState := by
  intro s hv
  have hregs := resetResult_of_valid s hv
  refine ⟨resetResult s, exec_reset_eq_next.2 rfl, resetResult_srBit hv, by rw [hregs], by rw [hregs], by rw [hregs],
    by rw [hregs], by rw [hregs], by rw [hregs], resetResult_resetSeen s, fun c hc => resetResult_chan hv hc,
    fun c hc => resetResult_chan_of_absent hv hc, resetResult_cfg s, by rw [hregs], by rw [hregs], resetResult_inbox s,
    by rw [hregs], ?_⟩
  rw [resetResult_trace_of_valid hv, resetEvents_eq_shown hv]
  simp only [List.append_assoc]

/-- Settles O45: power-on has a valid configuration, and a `RESET` then keeps no free value but the transients and the
count of draws. -/
theorem powerOnResetReachesResetState : Obligations.PowerOnResetReachesResetState := by
  refine ⟨resetResult (powerOn Config.example124), exec_reset_eq_next.2 rfl, ?_⟩
  rw [resetResult_of_valid _ (by decide)]
  rfl

/-! What is seen of a `RESET`. -/

/-- What is seen of a `RESET` with a valid configuration, from the configuration and the events before it alone
(70_reset_and_hazards.md R114; log 21). -/
def resetObservation (cfg : Config) (trace : List Event) : Observation where
  fault := faultNone
  registers := some { sr := 0b111, duty := 0, dir := .cw, chans := (channels cfg).map (resetChannel cfg), tmrEn := true }
  trace := trace ++ resetEvents cfg

theorem observe_resetResult_of_valid {s : State} (hv : ConfigValid s.cfg) :
    (resetResult s).observe = resetObservation s.cfg s.trace := by
  have hchans : (channels s.cfg).map (resetResult s).chan = (channels s.cfg).map (resetChannel s.cfg) :=
    List.map_congr_left fun c hc => resetResult_chan hv hc
  have hnone : (resetResult s).fault = faultNone := by rw [resetResult_fault, if_pos hv]
  rw [observe_of_faultNone _ hnone, State.registers, resetResult_cfg, hchans, resetResult_of_valid s hv, resetObservation]

/-- Settles O46: what is seen is `resetObservation` where the configuration is valid, and the fault with its event where it
is not. -/
theorem resetDiscardsHistory : Obligations.ResetDiscardsHistory := by
  intro s1 s2 t1 t2 hcfg htrace hx1 hx2
  obtain rfl := exec_reset_eq_next.1 hx1
  obtain rfl := exec_reset_eq_next.1 hx2
  by_cases hv : ConfigValid s1.cfg
  · rw [observe_resetResult_of_valid hv, observe_resetResult_of_valid (hcfg ▸ hv), hcfg, htrace]
  · rw [observe_resetResult_of_error hv, observe_resetResult_of_error (hcfg ▸ hv), htrace]

/-! A button held through a `RESET`. -/

/-- A pass appends its events to the trace, the settles of the buttons it fires among them (44_control_pass.md R91). -/
theorem runPass_appends (st : Stimulus) (s : State) :
    ∃ events, (runPass st s).trace = s.trace ++ events ∧ ∀ b, firedBy st s b = true → Event.settle b ∈ events := by
  obtain ⟨_, _, _, rest, -, h⟩ := runPass_frame st s
  refine ⟨settles st s ++ rest, by rw [h, List.append_assoc], fun b hb => ?_⟩
  exact List.mem_append_left _ ((settle_mem_settles st s b).2 hb)

/-- Settles O13: the button is sampled pressed while its debouncer is armed, which is what fires it. -/
theorem heldButtonFiresAfterReset : Obligations.HeldButtonFiresAfterReset := by
  intro s b st hv hpressed
  have hfires : firedBy st (resetResult s) b = true := by
    rw [firedBy, hpressed, resetResult_srBit hv]
    rfl
  have hnone : (resetResult s).fault = faultNone := by rw [resetResult_fault, if_pos hv]
  obtain ⟨events, htrace, hsettles⟩ := runPass_appends st (resetResult s)
  exact ⟨resetResult s, runPass st (resetResult s), exec_reset_eq_next.2 rfl, resetResult_srBit hv,
    exec_pass_eq_next.2 ⟨resetResult_resetSeen s, hnone, rfl⟩, (runPass_evBit st _ b).trans hfires,
    events, htrace, hsettles b hfires⟩

/-! The settle delay. -/

/-- A state whose configuration has another settle delay (70_reset_and_hazards.md R126). -/
def State.withSettleDelay (s : State) (d : Nat) : State :=
  { s with cfg := { s.cfg with settleDelay := d } }

section SettleDelay

variable (d : Nat) (s : State)

theorem channels_withSettleDelay : channels (s.withSettleDelay d).cfg = channels s.cfg := rfl

theorem pollButton_withSettleDelay (b : Button) (l : Bool) :
    pollButton b l (s.withSettleDelay d) = (pollButton b l s).withSettleDelay d := by
  rw [pollButton_eq, pollButton_eq]
  rfl

theorem increaseDuty_withSettleDelay : increaseDuty (s.withSettleDelay d) = (increaseDuty s).withSettleDelay d := by
  rw [increaseDuty_eq, increaseDuty_eq, apply_ite (State.withSettleDelay · d)]
  rfl

theorem decreaseDuty_withSettleDelay : decreaseDuty (s.withSettleDelay d) = (decreaseDuty s).withSettleDelay d := by
  rw [decreaseDuty_eq, decreaseDuty_eq, apply_ite (State.withSettleDelay · d)]
  rfl

theorem setChan_withSettleDelay (c : Chan) (ch : Channel) :
    (s.withSettleDelay d).setChan c ch = (s.setChan c ch).withSettleDelay d :=
  match c with
  | 0 => rfl
  | 1 => rfl

theorem commitPair_withSettleDelay (c : Chan) (cmp mode : Byte) :
    commitPair c cmp mode (s.withSettleDelay d) = (commitPair c cmp mode s).withSettleDelay d :=
  match c with
  | 0 => rfl
  | 1 => rfl

theorem initPwm_withSettleDelay (c : Chan) : initPwm c (s.withSettleDelay d) = (initPwm c s).withSettleDelay d :=
  commitPair_withSettleDelay d s c _ _

theorem applyDir_withSettleDelay (c : Chan) : applyDir c (s.withSettleDelay d) = (applyDir c s).withSettleDelay d :=
  match c with
  | 0 => rfl
  | 1 => rfl

/-- Neither the PWM value nor a free value in its place is of the settle delay (42_pwm_translator.md R74; log 10). -/
theorem applyPwm_withSettleDelay (c : Chan) : applyPwm c (s.withSettleDelay d) = (applyPwm c s).withSettleDelay d := by
  simp only [applyPwm]
  rw [apply_ite (State.withSettleDelay · d)]
  match c with
  | 0 => rfl
  | 1 => rfl

/-- A commit is operations that each carry the settle delay along, for as many channels as before. -/
theorem commitOutputs_withSettleDelay : commitOutputs (s.withSettleDelay d) = (commitOutputs s).withSettleDelay d := by
  have hpwm : (channels s.cfg).foldl (fun t c => applyPwm c (t.setPhase (.commitPwm c))) (s.withSettleDelay d) =
      ((channels s.cfg).foldl (fun t c => applyPwm c (t.setPhase (.commitPwm c))) s).withSettleDelay d :=
    List.foldl_hom (State.withSettleDelay · d) fun t c => applyPwm_withSettleDelay d (t.setPhase (.commitPwm c)) c
  have hdir (t : State) :
      (channels s.cfg).foldl (fun t c => applyDir c (t.setPhase (.commitDir c))) (t.withSettleDelay d) =
        ((channels s.cfg).foldl (fun t c => applyDir c (t.setPhase (.commitDir c))) t).withSettleDelay d :=
    List.foldl_hom (State.withSettleDelay · d) fun t c => applyDir_withSettleDelay d (t.setPhase (.commitDir c)) c
  simp only [commitOutputs, channels_withSettleDelay, hpwm, hdir]
  rfl

theorem runPass_withSettleDelay (st : Stimulus) :
    runPass st (s.withSettleDelay d) = (runPass st s).withSettleDelay d := by
  have hduty : afterDuty st (s.withSettleDelay d) = (afterDuty st s).withSettleDelay d := rfl
  rw [runPass_eq, runPass_eq, hduty, commitOutputs_withSettleDelay, ← apply_ite (State.withSettleDelay · d)]
  rfl

theorem forgetChan_withSettleDelay (c : Chan) :
    (s.withSettleDelay d).forgetChan c = (s.forgetChan c).withSettleDelay d := by
  rw [State.forgetChan, State.forgetChan, setChan_withSettleDelay, apply_ite (State.withSettleDelay · d)]
  rfl

theorem takeConfigFault_withSettleDelay (e : CfgError) :
    takeConfigFault e (s.withSettleDelay d) = (takeConfigFault e s).withSettleDelay d := by
  have hoff : { s.withSettleDelay d with tmrEn := Config.freeTmrEn (s.withSettleDelay d).draws } =
      State.withSettleDelay { s with tmrEn := Config.freeTmrEn s.draws } d := rfl
  rw [takeConfigFault, State.forgetOutputs, hoff, forgetChan_withSettleDelay, forgetChan_withSettleDelay]
  rfl

/-- No check of `CFG_CHECK` is about the settle delay (60_exceptions.md R101). -/
theorem checkConfig_withSettleDelay : checkConfig (s.withSettleDelay d) = (checkConfig s).withSettleDelay d := by
  cases h : cfgError s.cfg with
  | none =>
    rw [checkConfig_of_valid s h, checkConfig_of_valid (s.withSettleDelay d) h]
    rfl
  | some e =>
    rw [checkConfig_of_error s e h, checkConfig_of_error (s.withSettleDelay d) e h]
    exact takeConfigFault_withSettleDelay d s e

theorem resetResult_withSettleDelay : resetResult (s.withSettleDelay d) = (resetResult s).withSettleDelay d := by
  cases h : cfgError s.cfg with
  | none =>
    rw [resetResult_of_valid s h, resetResult_of_valid (s.withSettleDelay d) h]
    rfl
  | some e =>
    have hfault := takeConfigFault_withSettleDelay d ((s.markReset).setPhase .init) e
    rw [resetResult_of_error s e h, resetResult_of_error (s.withSettleDelay d) e h]
    exact congrArg State.forgetInternals hfault

/-- Every operation carries the settle delay along, whatever the configuration. -/
theorem exec_withSettleDelay {i : Instr} {s t : State} (hx : exec i s = .next t) :
    exec i (s.withSettleDelay d) = .next (t.withSettleDelay d) := by
  cases i with
  | reset =>
    obtain rfl := exec_reset_eq_next.1 hx
    exact exec_reset_eq_next.2 (resetResult_withSettleDelay d s).symm
  | cfgCheck =>
    obtain rfl := exec_cfgCheck_eq_next.1 hx
    exact exec_cfgCheck_eq_next.2 (checkConfig_withSettleDelay d s).symm
  | debPoll b l =>
    obtain rfl := exec_debPoll_eq_next.1 hx
    exact exec_debPoll_eq_next.2 (pollButton_withSettleDelay d s b l).symm
  | dutyInc =>
    obtain rfl := exec_dutyInc_eq_next.1 hx
    exact exec_dutyInc_eq_next.2 (increaseDuty_withSettleDelay d s).symm
  | dutyDec =>
    obtain rfl := exec_dutyDec_eq_next.1 hx
    exact exec_dutyDec_eq_next.2 (decreaseDuty_withSettleDelay d s).symm
  | dirToggle =>
    obtain rfl := exec_dirToggle_eq_next.1 hx
    exact exec_dirToggle_eq_next.2 rfl
  | pwmInit c =>
    obtain ⟨hex, rfl⟩ := exec_pwmInit_eq_next.1 hx
    exact exec_pwmInit_eq_next.2 ⟨hex, (initPwm_withSettleDelay d s c).symm⟩
  | pwmApply c =>
    obtain ⟨hex, rfl⟩ := exec_pwmApply_eq_next.1 hx
    exact exec_pwmApply_eq_next.2 ⟨hex, (applyPwm_withSettleDelay d s c).symm⟩
  | dirApply c =>
    obtain ⟨hex, rfl⟩ := exec_dirApply_eq_next.1 hx
    exact exec_dirApply_eq_next.2 ⟨hex, (applyDir_withSettleDelay d s c).symm⟩
  | tmrStart =>
    obtain rfl := exec_tmrStart_eq_next.1 hx
    exact exec_tmrStart_eq_next.2 rfl
  | renderReq =>
    obtain rfl := exec_renderReq_eq_next.1 hx
    exact exec_renderReq_eq_next.2 rfl
  | pass st =>
    obtain ⟨hseen, hnone, rfl⟩ := exec_pass_eq_next.1 hx
    exact exec_pass_eq_next.2 ⟨hseen, hnone, (runPass_withSettleDelay d s st).symm⟩

end SettleDelay

/-- Settles O51: `exec_withSettleDelay`, the settle delay written out. -/
theorem settleDelayIsNotRead : Obligations.SettleDelayIsNotRead :=
  fun _ _ _ d hx => exec_withSettleDelay d hx

end Sys2Proof.Machine
